-- ==== Sys2Proof/Word.lean ====
section
/-! DEFINITION. The word types of CXPOW (00_scope.md R10, R11; 10_state.md R22): abbreviations only, so that the
library's lemmas about `BitVec` and `Vector` apply. Byte-order and bit-field helpers stand in Machine/Operands.lean. -/

namespace Sys2Proof

/-- A 4-bit matrix entry (10_state.md R26). -/
abbrev Nibble := BitVec 4

/-- An 8-bit byte (00_scope.md R11). -/
abbrev Byte := BitVec 8

/-- A 32-bit bus word (20_memory.md R62). -/
abbrev Word32 := BitVec 32

/-- A 64-bit generator word (10_state.md R24). -/
abbrev Word64 := BitVec 64

/-- A byte address, an offset into the 64 KiB window (20_memory.md R60). -/
abbrev Addr := BitVec 16

/-- A 32-byte buffer; byte `k` of buffer B is `B[k]` (00_scope.md R11). -/
abbrev Bytes32 := Vector Byte 32

/-- The 256-entry substitution table SB (10_state.md R27). -/
abbrev Table := Vector Byte 256

/-- The 64 × 64 matrix; row `r`, column `c` is `M[r][c]` (10_state.md R26). -/
abbrev Matrix := Vector (Vector Nibble 64) 64

/-- An octonion: eight 64-bit components (42_mixing.md R146). -/
abbrev Octonion := Vector Word64 8

end Sys2Proof
end

