-- ==== Sys2Proof/Syntax.lean ====
section
/-! DEFINITION. The fifteen commands of CXPOW, one constructor per row of spec/opcode_table.json
(30_encoding.md R93). No command has an operand field: every operand is implicit (R91). -/

namespace Sys2Proof

/-- A command (00_scope.md R16). -/
inductive Instr where
  | nop
  | gseed
  | gnext
  | genmat
  | rank
  | mvmul
  | oct
  | sboxgen
  | anti
  | chain
  | sboxapp
  | fold
  | cmp
  | eval
  | ack
deriving DecidableEq, Repr

end Sys2Proof
end

