-- ==== Sys2Proof/WellFormed.lean ====
section
/-! DEFINITION. Well-formedness. A command has no operand (30_encoding.md R91), so every term of `Instr` is well
formed; what can be ill formed is a command word, and R92 gives it two checks: RSV = 0 and OPC ≤ 0x0E. -/

namespace Sys2Proof

/-- Every command is well formed: there is no field a term could hold out of range (30_encoding.md R91). -/
def Instr.wellFormed : Instr → Bool
  | .nop => true
  | .gseed => true
  | .gnext => true
  | .genmat => true
  | .rank => true
  | .mvmul => true
  | .oct => true
  | .sboxgen => true
  | .anti => true
  | .chain => true
  | .sboxapp => true
  | .fold => true
  | .cmp => true
  | .eval => true
  | .ack => true

/-- R92's first check: the reserved bits 31:8 are 0. -/
def reservedClear (w : Word32) : Bool := w.extractLsb' 8 24 == 0#24

/-- R92's second check: the opcode is one of 0x00..0x0E. -/
def opcodeListed (w : Word32) : Bool := (w.extractLsb' 0 8).toNat ≤ 0x0E

/-- A word is legal iff it passes both checks (30_encoding.md R92). -/
def wordLegal (w : Word32) : Bool := reservedClear w && opcodeListed w

end Sys2Proof
end

