-- ==== Sys2Proof/Decode.lean ====
section
/-! DEFINITION. The decoder of the 32-bit command word (30_encoding.md R90, R92-R94), total and rejecting by name,
and after it the encoder. Field extraction happens here and nowhere else. -/

namespace Sys2Proof

/-- Why a word is Illegal (30_encoding.md R94); the machine raises ILLEGAL_CMD for both. -/
inductive DecodeError where
  /-- RSV, bits 31:8, is not 0. -/
  | reservedBits
  /-- OPC is one of the reserved opcodes 0x0F..0xFF. -/
  | reservedOpcode
deriving DecidableEq, Repr

/-- The field OPC, bits 7:0 (30_encoding.md R90). -/
def opcField (w : Word32) : Byte := w.extractLsb' 0 8

/-- The field RSV, bits 31:8 (30_encoding.md R90). -/
def rsvField (w : Word32) : BitVec 24 := w.extractLsb' 8 24

/-- The opcode map (30_encoding.md R93). -/
def instrOfOpcode (opc : Byte) : Option Instr :=
  match opc.toNat with
  | 0x00 => some .nop
  | 0x01 => some .gseed
  | 0x02 => some .gnext
  | 0x03 => some .genmat
  | 0x04 => some .rank
  | 0x05 => some .mvmul
  | 0x06 => some .oct
  | 0x07 => some .sboxgen
  | 0x08 => some .anti
  | 0x09 => some .chain
  | 0x0A => some .sboxapp
  | 0x0B => some .fold
  | 0x0C => some .cmp
  | 0x0D => some .eval
  | 0x0E => some .ack
  | _ => none

/-- `decode(w)`, total on every 32-bit word (30_encoding.md R92). -/
def decode (w : Word32) : Except DecodeError Instr :=
  if rsvField w ≠ 0#24 then .error .reservedBits
  else
    match instrOfOpcode (opcField w) with
    | some i => .ok i
    | none => .error .reservedOpcode

/-- The instruction the decoder reads from the word whose bits, numbered as the opcode table numbers them, are `w`; the
bits from `nbits` up are 0. A command is one 32-bit word (30_encoding.md R90), delivered whole by one bus write, so
its bits are the bus word's bits. -/
def decodeTableWord (nbits w : Nat) : Option Instr :=
  match decode (BitVec.ofNat 32 (w % 2 ^ nbits)) with
  | .ok i => some i
  | .error _ => none

/-- The opcode of a command (30_encoding.md R93). -/
def opcodeOf : Instr → Byte
  | .nop => 0x00#8
  | .gseed => 0x01#8
  | .gnext => 0x02#8
  | .genmat => 0x03#8
  | .rank => 0x04#8
  | .mvmul => 0x05#8
  | .oct => 0x06#8
  | .sboxgen => 0x07#8
  | .anti => 0x08#8
  | .chain => 0x09#8
  | .sboxapp => 0x0A#8
  | .fold => 0x0B#8
  | .cmp => 0x0C#8
  | .eval => 0x0D#8
  | .ack => 0x0E#8

/-- The command word of a command: RSV = 0 above its opcode (30_encoding.md R90, R93). -/
def encode (i : Instr) : Word32 := 0#24 ++ opcodeOf i

end Sys2Proof
end

