-- ==== Sys2Proof/Config.lean ====
section
/-! DEFINITION. What an implementation fixes and the spec leaves open: the protocol constant record K
(00_scope.md R9; 92_eei_decisions.md D20) and the window's base (20_memory.md R60). The machine's commands use ONE
record, `Config.protocolK`, an opaque constant with no body: nothing can be proved of its values, so a claim about a
command holds for every K (log entry 1). -/

namespace Sys2Proof

/-- The tuple (P, D, N, Q) = (PROD, DIGEST, NPROD, PREOCT), "the four auxiliary byte buffers" (00_scope.md R16;
10_state.md R23). -/
structure Bufs where
  p : Bytes32
  d : Bytes32
  n : Bytes32
  q : Bytes32
deriving DecidableEq, Repr, Inhabited

/-- Which of the four auxiliary buffers (43_sbox.md R162, `K.SBOX_SRC`). -/
inductive BufsName where
  | p
  | d
  | n
  | q
deriving DecidableEq, Repr, Inhabited

/-- The OPEN record K, field for field as 92_eei_decisions.md D20 lists it. A field whose range the spec bounds is
held in a type that has exactly that range, or is brought into it where it is used (log entries 2 and 3), so that
every value of this type is a record the spec admits and every admitted record is a value of it. -/
structure ProtocolK where
  /-- `K.ROWSEL(k, i)`, k = 1..4 held as 0..3 (42_mixing.md R143). -/
  rowsel : Fin 4 → Fin 32 → Fin 64
  /-- `K.MV_COMBINE(i, sum1, sum2, sum3, sum4)`: the byte of `product` and of `nibble_product` (R144). -/
  mvCombine : Fin 32 → Nat → Nat → Nat → Nat → Byte × Byte
  /-- The choice behind `K.OCT_IDX(i, j)` for 1 ≤ i < j, which `octIdx` brings into R146's constraints. -/
  octIdxChoice : Fin 8 → Fin 8 → Fin 8
  /-- The choice behind `K.OCT_SGN(i, j)` for 1 ≤ i < j: true is −1 (R146; `octNeg`). -/
  octNegChoice : Fin 8 → Fin 8 → Bool
  /-- `K.OCT_ROUNDS` less 1: the record has at least one round (R147). -/
  octRoundsLess1 : Nat
  /-- `K.OCT_WINDOW(r, k)`, read only for r below the number of rounds (R147). -/
  octWindow : Nat → Fin 8 → Fin 32
  /-- `K.SBOX_SRC(i)` (43_sbox.md R162). -/
  sboxSrc : Fin 256 → BufsName
  /-- `K.SBOX_IDX(i, Bufs)` (R162). -/
  sboxIdx : Fin 256 → Bufs → Fin 32
  /-- `K.SBOX_VAL(i, Bufs)` (R162). -/
  sboxVal : Fin 256 → Bufs → Byte
  /-- `K.SBOX_ITER_POS` (R163). -/
  sboxIterPos : Fin 32
  /-- `K.SBOX_ITER_MAP` less 1: its range is 1..2 (R163). -/
  sboxIterLess1 : Byte → Fin 2
  /-- `K.SBOX_REFINE(T, Bufs)`, one pass over the whole table (R164). -/
  sboxRefine : Table → Bufs → Table
  /-- `K.SAPP_IDX(i, Bufs)` (R166). -/
  sappIdx : Fin 32 → Bufs → Fin 256
  /-- `K.ANTI` (44_hashing.md R183). -/
  anti : Bytes32 → Bytes32
  /-- `K.HCHAIN` (R183). -/
  hchain : Bytes32 → Bytes32
  /-- `K.CHAIN_POS` (R183). -/
  chainPos : Fin 32
  /-- `K.CHAIN_MAP` less 1: its range is 1..3 (R183). -/
  chainLess1 : Byte → Fin 3
  /-- `K.HFINAL` (R183). -/
  hfinal : Bytes32 → Bytes32
deriving Inhabited

/-- The protocol constant record of the device: OPEN, a free value (00_scope.md R9, R17; log entry 1). -/
opaque Config.protocolK : ProtocolK

/-- `CXPOW_BASE`, where the window sits in the host's own address space: a platform's choice (20_memory.md R60; log
entry 15). No operation of the block reads it: every address in the model is an offset from it. -/
opaque Config.cxpowBase : Nat

end Sys2Proof
end

