-- ==== Sys2Proof/Machine/State.lean ====
section
/-! DEFINITION. The state of CXPOW as plain data (10_state.md R22), the host's schedule it reacts to, the locations of
the register window (20_memory.md R61), the reasons a step can stop, and the reset state (70_reset_and_hazards.md
R240). Operations on the state stand in Machine/Ops.lean. -/

namespace Sys2Proof.Machine

/-- The four generator words as one value (10_state.md R24). -/
structure Gen where
  s0 : Word64
  s1 : Word64
  s2 : Word64
  s3 : Word64
deriving DecidableEq, Repr

/-- R121's local variables S and n between two attempts of a GENMAT that has not completed. DESIGN CHOICE, log entry
5: hidden, no transaction can observe it. -/
structure GenmatProgress where
  gen : Gen
  n : Word32
deriving DecidableEq, Repr

/-- What the outside world does in one slot of the total order (20_memory.md R62, R70; 70_reset_and_hazards.md R240). -/
inductive HostEvent where
  /-- No transaction. -/
  | idle
  /-- `MemRead(a, 4)`. -/
  | read (a : Addr)
  /-- `MemWrite(a, 4, v)`. -/
  | write (a : Addr) (v : Word32)
  /-- The reset input is asserted. -/
  | reset
deriving DecidableEq, Repr

/-- One slot of the total order of R70: a host event, then, if `tick`, one turn of the sequencer. The free latency of
R44 and R248 is the freedom of where the ticks stand. DESIGN CHOICE, log entry 4. -/
structure Slot where
  event : HostEvent
  tick : Bool
deriving DecidableEq, Repr

/-- The 64-bit registers of the window (10_state.md R22). -/
inductive Reg64 where
  | word
  | s0
  | s1
  | s2
  | s3
deriving DecidableEq, Repr

/-- The nine 32-byte buffers, in address order (00_scope.md R16; 20_memory.md R61). -/
inductive Buf where
  | seed
  | digest
  | prod
  | nprod
  | preoct
  | aux
  | chain
  | result
  | target
deriving DecidableEq, Repr

/-- A mapped word of the window (20_memory.md R61, R63, R66). -/
inductive Loc where
  | id
  | cmd
  | status
  | ctrl
  | rank
  | attempts
  | cap
  | errinfo
  /-- The low (false) or high (true) word of a 64-bit register. -/
  | reg64 (r : Reg64) (hi : Bool)
  /-- Word `w` of a buffer: its bytes 4w..4w+3. -/
  | buf (b : Buf) (w : Fin 8)
  /-- Word `w` of the S-box. -/
  | sb (w : Fin 64)
  /-- Entries M[r][4w..4w+3]. -/
  | matrix (r : Fin 64) (w : Fin 16)
deriving DecidableEq, Repr

/-- The whole state. Each field names the rule of the spec that gives it; the last three are the model's own. -/
structure State where
  /-- STATUS.BUSY (R34): a command is accepted and not yet complete. -/
  busy : Bool
  /-- STATUS.DONE (R34). -/
  done : Bool
  /-- STATUS.MVALID (R34). -/
  mvalid : Bool
  /-- STATUS.PASS (R34). -/
  pass : Bool
  /-- STATUS.EOVF (R34). -/
  eovf : Bool
  /-- STATUS.ERRCODE (R34; 60_exceptions.md R210). -/
  errcode : Byte
  /-- CTRL.IE (R35). -/
  ie : Bool
  /-- RANK, its 7 used bits (R36). -/
  rank : BitVec 7
  /-- ATTEMPTS (R36). -/
  attempts : Word32
  /-- CAP (R36). -/
  cap : Word32
  /-- ERRINFO (R37). -/
  errinfo : Word32
  /-- WORD (R25). -/
  word : Word64
  /-- S0 (R24). -/
  s0 : Word64
  /-- S1 (R24). -/
  s1 : Word64
  /-- S2 (R24). -/
  s2 : Word64
  /-- S3 (R24). -/
  s3 : Word64
  /-- SEED (R28). -/
  seed : Bytes32
  /-- DIGEST, D (R29). -/
  digest : Bytes32
  /-- PROD, P (R30). -/
  prod : Bytes32
  /-- NPROD, N (R30). -/
  nprod : Bytes32
  /-- PREOCT, Q (R30). -/
  preoct : Bytes32
  /-- AUX, A (R31). -/
  aux : Bytes32
  /-- CHAIN, H (R31). -/
  chain : Bytes32
  /-- RESULT, R (R31, R33). -/
  result : Bytes32
  /-- TARGET, T (R32). -/
  target : Bytes32
  /-- SB (R27). -/
  sb : Table
  /-- M (R26). -/
  m : Matrix
  /-- LATCH: the command in flight, `none` when empty (R41). -/
  latch : Option Instr
  /-- The model's own: the progress of a GENMAT in flight (log entry 5). -/
  genmat : Option GenmatProgress
  /-- The model's own: the word the last step's read returned (R62; log entry 7). -/
  rdata : Option Word32
  /-- The model's own: what the host does next, and when the sequencer acts (R70; log entry 4). -/
  inputs : List Slot
deriving DecidableEq, Repr

/-- Why the machine stops. The spec's machine never stops (60_exceptions.md R214, R215). -/
inductive Fault where
  /-- Raised by `step` when the sequencer's turn comes with BUSY = 1 and an empty LATCH, a state no run reaches
  (`StateInv`, Safety.lean). Safe: the spec gives that state no meaning (log entry 13). -/
  | latchEmpty
deriving DecidableEq, Repr

/-- Why an instruction has no meaning. -/
inductive Refusal where
  /-- Answered by an arm of `exec` for an instruction that is not modelled yet. Safe: nothing is claimed of it. Every
  command has its meaning, so no arm answers it. -/
  | notModelled (mnemonic : String)
deriving DecidableEq, Repr

/-- The reset state (70_reset_and_hazards.md R240, with the reset column of 10_state.md R22): every register, buffer
and array 0, LATCH empty, no host transaction scheduled. -/
def State.reset : State where
  busy := false
  done := false
  mvalid := false
  pass := false
  eovf := false
  errcode := 0#8
  ie := false
  rank := 0#7
  attempts := 0#32
  cap := 0#32
  errinfo := 0#32
  word := 0#64
  s0 := 0#64
  s1 := 0#64
  s2 := 0#64
  s3 := 0#64
  seed := Vector.replicate 32 0#8
  digest := Vector.replicate 32 0#8
  prod := Vector.replicate 32 0#8
  nprod := Vector.replicate 32 0#8
  preoct := Vector.replicate 32 0#8
  aux := Vector.replicate 32 0#8
  chain := Vector.replicate 32 0#8
  result := Vector.replicate 32 0#8
  target := Vector.replicate 32 0#8
  sb := Vector.replicate 256 0#8
  m := Vector.replicate 64 (Vector.replicate 64 0#4)
  latch := none
  genmat := none
  rdata := none
  inputs := []

end Sys2Proof.Machine
end

