-- ==== Sys2Proof/Machine/Operands.lean ====
section
/-! DEFINITION. Byte order, lanes, nibbles and words of the named buffers (00_scope.md R10, R11; 20_memory.md R63, R66,
R67): every reading of a buffer as a number or as bus words, and every writing of one, is decided here once. -/

namespace Sys2Proof.Machine

/-! ## Words of four bytes, little-endian (R63) -/

/-- `{b3, b2, b1, b0}`: byte 0 is in bits 7:0 (20_memory.md R63). -/
def wordOfBytes (b0 b1 b2 b3 : Byte) : Word32 := b3 ++ b2 ++ b1 ++ b0

/-- Byte `k` of a bus word: bits 8k+7..8k (20_memory.md R63). -/
def byteOfWord (v : Word32) (k : Nat) : Byte := v.extractLsb' (8 * k) 8

/-- Word `w` of a buffer (20_memory.md R63). -/
def bufWord (b : Bytes32) (w : Fin 8) : Word32 :=
  wordOfBytes b[4 * w.val] b[4 * w.val + 1] b[4 * w.val + 2] b[4 * w.val + 3]

/-- A buffer with its word `w` replaced (20_memory.md R63). -/
@[irreducible] def putBufWord (b : Bytes32) (w : Fin 8) (v : Word32) : Bytes32 :=
  Vector.ofFn fun i => if i.val / 4 = w.val then byteOfWord v (i.val % 4) else b[i]

/-- Word `w` of the S-box (20_memory.md R63). -/
def tableWord (t : Table) (w : Fin 64) : Word32 :=
  wordOfBytes t[4 * w.val] t[4 * w.val + 1] t[4 * w.val + 2] t[4 * w.val + 3]

/-- The S-box with its word `w` replaced (20_memory.md R63). -/
@[irreducible] def putTableWord (t : Table) (w : Fin 64) (v : Word32) : Table :=
  Vector.ofFn fun i => if i.val / 4 = w.val then byteOfWord v (i.val % 4) else t[i]

/-- The byte a matrix entry reads as: `zext_8` of its 4 bits (20_memory.md R66). -/
def entryByte (x : Nibble) : Byte := x.setWidth 8

/-- The entry a written byte stores: its bits 3:0 (20_memory.md R66). -/
def byteEntry (b : Byte) : Nibble := b.extractLsb' 0 4

/-- Word `w` of row `r` of the matrix window (20_memory.md R66). -/
def matrixWord (m : Matrix) (r : Fin 64) (w : Fin 16) : Word32 :=
  let row := m[r]
  wordOfBytes (entryByte row[4 * w.val]) (entryByte row[4 * w.val + 1]) (entryByte row[4 * w.val + 2])
    (entryByte row[4 * w.val + 3])

/-- The matrix with word `w` of row `r` replaced (20_memory.md R66). -/
@[irreducible] def putMatrixWord (m : Matrix) (r : Fin 64) (w : Fin 16) (v : Word32) : Matrix :=
  m.set r (Vector.ofFn fun c => if c.val / 4 = w.val then byteEntry (byteOfWord v (c.val % 4)) else m[r][c])

/-- The low (false) or high (true) word of a 64-bit register (20_memory.md R63). -/
def halfWord (x : Word64) (hi : Bool) : Word32 := if hi then x.extractLsb' 32 32 else x.extractLsb' 0 32

/-- A 64-bit register with one half replaced (20_memory.md R63). -/
def putHalfWord (x : Word64) (hi : Bool) (v : Word32) : Word64 :=
  if hi then v ++ (x.extractLsb' 0 32 : Word32) else (x.extractLsb' 32 32 : Word32) ++ v

/-! ## Whole buffers -/

/-- `LE64(B[8k..8k+7])`: lane `k` of a buffer (00_scope.md R11; 40_generator.md R111). -/
def le64 (b : Bytes32) (k : Fin 4) : Word64 :=
  b[8 * k.val + 7] ++ b[8 * k.val + 6] ++ b[8 * k.val + 5] ++ b[8 * k.val + 4] ++ b[8 * k.val + 3]
    ++ b[8 * k.val + 2] ++ b[8 * k.val + 1] ++ b[8 * k.val]

/-- `LE256(B)` = Σ B[k]·2^(8k) (00_scope.md R11). -/
def le256 (b : Bytes32) : Nat := ((List.finRange 32).map fun k => b[k].toNat * 2 ^ (8 * k.val)).sum

/-- `B ^ C`, bytewise (00_scope.md R11). -/
def xorBytes (x y : Bytes32) : Bytes32 := Vector.ofFn fun i => x[i] ^^^ y[i]

/-- The nibble vector of a digest: high nibble first, then low nibble, byte by byte (42_mixing.md R142). -/
def nibbleVector (d : Bytes32) : Vector Nibble 64 :=
  Vector.ofFn fun j =>
    let b := d[j.val / 2]
    if j.val % 2 = 0 then b.extractLsb' 4 4 else b.extractLsb' 0 4

/-! ## Registers and buffers by name -/

/-- The generator state S0..S3 (10_state.md R24). -/
def State.gen (s : State) : Gen := ⟨s.s0, s.s1, s.s2, s.s3⟩

/-- S0..S3 written together. -/
def State.setGen (s : State) (g : Gen) : State := { s with s0 := g.s0, s1 := g.s1, s2 := g.s2, s3 := g.s3 }

/-- The tuple Bufs = (P, D, N, Q) (10_state.md R23). -/
def State.bufs (s : State) : Bufs := ⟨s.prod, s.digest, s.nprod, s.preoct⟩

/-- The buffer of Bufs that `K.SBOX_SRC` names (43_sbox.md R162). -/
def bufsAt (b : Bufs) : BufsName → Bytes32
  | .p => b.p
  | .d => b.d
  | .n => b.n
  | .q => b.q

/-- A 64-bit register's content (10_state.md R22). -/
def State.reg64 (s : State) : Reg64 → Word64
  | .word => s.word
  | .s0 => s.s0
  | .s1 => s.s1
  | .s2 => s.s2
  | .s3 => s.s3

/-- A 64-bit register written (10_state.md R22). -/
def State.setReg64 (s : State) (r : Reg64) (v : Word64) : State :=
  match r with
  | .word => { s with word := v }
  | .s0 => { s with s0 := v }
  | .s1 => { s with s1 := v }
  | .s2 => { s with s2 := v }
  | .s3 => { s with s3 := v }

/-- A buffer's content (10_state.md R22). -/
def State.buf (s : State) : Buf → Bytes32
  | .seed => s.seed
  | .digest => s.digest
  | .prod => s.prod
  | .nprod => s.nprod
  | .preoct => s.preoct
  | .aux => s.aux
  | .chain => s.chain
  | .result => s.result
  | .target => s.target

/-- A buffer written (10_state.md R22). -/
def State.setBuf (s : State) (b : Buf) (v : Bytes32) : State :=
  match b with
  | .seed => { s with seed := v }
  | .digest => { s with digest := v }
  | .prod => { s with prod := v }
  | .nprod => { s with nprod := v }
  | .preoct => { s with preoct := v }
  | .aux => { s with aux := v }
  | .chain => { s with chain := v }
  | .result => { s with result := v }
  | .target => { s with target := v }

end Sys2Proof.Machine
end

