-- ==== Sys2Proof/Machine/Flags.lean ====
section
/-! DEFINITION. The STATUS and CTRL words, the interrupt output and the two flags a command computes (10_state.md R34,
R35; 60_exceptions.md R210, R220; 45_compare.md R190, R191; 41_matrix.md R125). -/

namespace Sys2Proof.Machine

/-- The constant of the ID register, "C", "X", "P", "1" in little-endian order (10_state.md R38). -/
def idWord : Word32 := 0x31505843#32

/-- The STATUS word; its reserved bits 7:5 and 31:16 read 0 (10_state.md R34). -/
def State.statusWord (s : State) : Word32 :=
  0#16 ++ s.errcode ++ 0#3 ++ BitVec.ofBool s.eovf ++ BitVec.ofBool s.pass ++ BitVec.ofBool s.mvalid
    ++ BitVec.ofBool s.done ++ BitVec.ofBool s.busy

/-- The CTRL word: IE in bit 0, SRST and the reserved bits read 0 (10_state.md R35). -/
def State.ctrlWord (s : State) : Word32 := 0#31 ++ BitVec.ofBool s.ie

/-- The interrupt output, a level: DONE AND IE (60_exceptions.md R220). -/
def State.irq (s : State) : Bool := s.done && s.ie

/-- Error code ILLEGAL_CMD (60_exceptions.md R210). -/
def codeIllegalCmd : Byte := 0x01#8

/-- Error code BUSY_ACCESS (60_exceptions.md R210). -/
def codeBusyAccess : Byte := 0x02#8

/-- Error code BUS_UNMAPPED (60_exceptions.md R210). -/
def codeBusUnmapped : Byte := 0x03#8

/-- Error code RO_WRITE (60_exceptions.md R210). -/
def codeRoWrite : Byte := 0x04#8

/-- Error code GENMAT_CAP (60_exceptions.md R210). -/
def codeGenmatCap : Byte := 0x05#8

/-- The ERRINFO of a bus error: `{15'b0, W, a[15:0]}` (60_exceptions.md R210). -/
def accessInfo (isWrite : Bool) (a : Addr) : Word32 := 0#15 ++ BitVec.ofBool isWrite ++ a

/-- PASS: `LE256(R) ≤ LE256(T)` as unsigned integers (45_compare.md R190, R191). -/
def passFlag (r t : Bytes32) : Bool := decide (le256 r ≤ le256 t)

/-- MVALID after a rank computation: the rank is 64 (41_matrix.md R125). -/
def mvalidFlag (rk : Nat) : Bool := rk == 64

end Sys2Proof.Machine
end

