-- ==== Sys2Proof/Machine/Ops.lean ====
section
/-! DEFINITION. The named operations of the machine: recording an error (the one error mechanism, 60_exceptions.md
R214), the life cycle of a command (10_state.md R43, R44), reset (70_reset_and_hazards.md R240, R241), the address map
(20_memory.md R61) and the two bus transactions with their checks (60_exceptions.md R212). -/

namespace Sys2Proof.Machine

/-! ## Errors, the life cycle of a command, reset -/

/-- `raise Error(code, info)`: the first error is kept, a later one sets EOVF (60_exceptions.md R214). CXPOW has no
trap: nothing else is saved and nothing is transferred (R215, R222). -/
def raiseError (s : State) (code : Byte) (info : Word32) : State :=
  if s.errcode = 0#8 then { s with errcode := code, errinfo := info } else { s with eovf := true }

/-- Clearing the recorded error: what ACK does (46_control.md R201), the counterpart of `raiseError`. -/
def clearError (s : State) : State := { s with errcode := 0#8, errinfo := 0#32, eovf := false }

/-- Acceptance: `LATCH <- opcode; BUSY <- 1; DONE <- 0` (10_state.md R43). A GENMAT starts with no attempt made. -/
def accept (s : State) (i : Instr) : State :=
  { s with latch := some i, busy := true, done := false, genmat := none }

/-- The end of a command: BUSY <- 0, and nothing is in flight any more (10_state.md R41, R44; log entry 6). -/
def retire (s : State) : State := { s with busy := false, latch := none, genmat := none }

/-- Completion of a command other than ACK: BUSY <- 0, DONE <- 1 (10_state.md R44). -/
def complete (s : State) : State := { retire s with done := true }

/-- Reset, hardware or soft: every piece of state takes its reset value, a command in flight is dropped
(70_reset_and_hazards.md R240, R241). The host's schedule is outside the block and stays. -/
def resetAll (s : State) : State := { State.reset with inputs := s.inputs }

/-! ## What the matrix commands write -/

/-- RANK and MVALID from a rank computation (41_matrix.md R121, R125). -/
def State.setRank (s : State) (rk : Nat) : State := { s with rank := BitVec.ofNat 7 rk, mvalid := mvalidFlag rk }

/-- M, S0..S3 and ATTEMPTS from a candidate (41_matrix.md R121). -/
def State.setCandidate (s : State) (mc : Matrix) (g : Gen) (n : Word32) : State :=
  { s with m := mc, s0 := g.s0, s1 := g.s1, s2 := g.s2, s3 := g.s3, attempts := n }

/-! ## What the pipeline stages write -/

/-- P and N (42_mixing.md R141). -/
def State.setProducts (s : State) (p n : Bytes32) : State := { s with prod := p, nprod := n }

/-- P and Q (42_mixing.md R145). -/
def State.setOct (s : State) (p q : Bytes32) : State := { s with prod := p, preoct := q }

/-- SB (43_sbox.md R161). -/
def State.setSb (s : State) (t : Table) : State := { s with sb := t }

/-- A (44_hashing.md R180). -/
def State.setAux (s : State) (b : Bytes32) : State := { s with aux := b }

/-- H (44_hashing.md R181; 43_sbox.md R165). -/
def State.setChain (s : State) (b : Bytes32) : State := { s with chain := b }

/-- R (44_hashing.md R182). -/
def State.setResult (s : State) (b : Bytes32) : State := { s with result := b }

/-- PASS (45_compare.md R190). -/
def State.setPass (s : State) (b : Bool) : State := { s with pass := b }

/-! ## The address map (20_memory.md R61, R63, R66) -/

/-- The control and status registers 0x0000-0x001F, in address order (10_state.md R22). -/
def controlLoc : Nat → Option Loc
  | 0 => some .id
  | 1 => some .cmd
  | 2 => some .status
  | 3 => some .ctrl
  | 4 => some .rank
  | 5 => some .attempts
  | 6 => some .cap
  | 7 => some .errinfo
  | _ => none

/-- S0..S3 in address order (10_state.md R22). -/
def genRegAt : Nat → Reg64
  | 0 => .s0
  | 1 => .s1
  | 2 => .s2
  | _ => .s3

/-- The buffers in address order (20_memory.md R61). -/
def bufAt : Nat → Buf
  | 0 => .seed
  | 1 => .digest
  | 2 => .prod
  | 3 => .nprod
  | 4 => .preoct
  | 5 => .aux
  | 6 => .chain
  | 7 => .result
  | _ => .target

/-- The location an address reaches; `none` for a misaligned address (a[1:0] ≠ 00) or one no row of R61 maps
(20_memory.md R61, R64). -/
def locate (a : Addr) : Option Loc :=
  let n := a.toNat
  if n % 4 ≠ 0 then none
  else if n < 0x0020 then controlLoc (n / 4)
  else if n < 0x0028 then some (.reg64 .word (n == 0x0024))
  else if n < 0x0040 then none
  else if n < 0x0060 then some (.reg64 (genRegAt ((n - 0x0040) / 8)) (n / 4 % 2 == 1))
  else if n < 0x0100 then none
  else if n < 0x0220 then some (.buf (bufAt ((n - 0x0100) / 32)) (Fin.ofNat 8 (n / 4)))
  else if n < 0x0400 then none
  else if n < 0x0500 then some (.sb (Fin.ofNat 64 ((n - 0x0400) / 4)))
  else if n < 0x1000 then none
  else if n < 0x2000 then some (.matrix (Fin.ofNat 64 ((n - 0x1000) / 64)) (Fin.ofNat 16 (n / 4)))
  else none

/-- Accessible while BUSY = 1: ID, STATUS, CTRL and ERRINFO only (60_exceptions.md R212). -/
def openWhileBusy : Loc → Bool
  | .id => true
  | .cmd => false
  | .status => true
  | .ctrl => true
  | .rank => false
  | .attempts => false
  | .cap => false
  | .errinfo => true
  | .reg64 _ _ => false
  | .buf _ _ => false
  | .sb _ => false
  | .matrix _ _ => false

/-- Marked RO: ID, STATUS, RANK, ATTEMPTS and ERRINFO (10_state.md R22; 60_exceptions.md R210). -/
def readOnly : Loc → Bool
  | .id => true
  | .cmd => false
  | .status => true
  | .ctrl => false
  | .rank => true
  | .attempts => true
  | .cap => false
  | .errinfo => true
  | .reg64 _ _ => false
  | .buf _ _ => false
  | .sb _ => false
  | .matrix _ _ => false

/-! ## Bus transactions -/

/-- The word a read of a location returns (20_memory.md R63, R66). CMD reads 0 (10_state.md R39). -/
def readLoc (s : State) : Loc → Word32
  | .id => idWord
  | .cmd => 0#32
  | .status => s.statusWord
  | .ctrl => s.ctrlWord
  | .rank => s.rank.setWidth 32
  | .attempts => s.attempts
  | .cap => s.cap
  | .errinfo => s.errinfo
  | .reg64 r hi => halfWord (s.reg64 r) hi
  | .buf b w => bufWord (s.buf b) w
  | .sb w => tableWord s.sb w
  | .matrix r w => matrixWord s.m r w

/-- A write to CMD with BUSY = 0: a legal word is accepted (10_state.md R43); an Illegal one raises ILLEGAL_CMD with
the word as information and sets DONE (60_exceptions.md R211). -/
def writeCmd (s : State) (v : Word32) : State :=
  match decode v with
  | .ok i => accept s i
  | .error _ => { raiseError s codeIllegalCmd v with done := true }

/-- A write to CTRL: bit 1 set is the soft reset, and bit 0 is then ignored; else bit 0 goes to IE (10_state.md R35;
70_reset_and_hazards.md R241). -/
def writeCtrl (s : State) (v : Word32) : State :=
  if v.getLsbD 1 then resetAll s else { s with ie := v.getLsbD 0 }

/-- A write that reaches its location (20_memory.md R63, R66): check 4 of R212. A write to the matrix window clears
MVALID. The read-only locations are not written; `busWrite` raises RO_WRITE before it comes here. -/
def writeLoc (s : State) (l : Loc) (v : Word32) : State :=
  match l with
  | .id => s
  | .cmd => writeCmd s v
  | .status => s
  | .ctrl => writeCtrl s v
  | .rank => s
  | .attempts => s
  | .cap => { s with cap := v }
  | .errinfo => s
  | .reg64 r hi => s.setReg64 r (putHalfWord (s.reg64 r) hi v)
  | .buf b w => s.setBuf b (putBufWord (s.buf b) w v)
  | .sb w => { s with sb := putTableWord s.sb w v }
  | .matrix r w => { s with m := putMatrixWord s.m r w v, mvalid := false }

/-- `MemRead(a, 4)` with the checks of 60_exceptions.md R212, in order: unmapped or misaligned, busy, else the read. A
refused read returns 0. -/
def busRead (s : State) (a : Addr) : State :=
  match locate a with
  | none => { raiseError s codeBusUnmapped (accessInfo false a) with rdata := some 0#32 }
  | some l =>
    if s.busy && !openWhileBusy l then
      { raiseError s codeBusyAccess (accessInfo false a) with rdata := some 0#32 }
    else { s with rdata := some (readLoc s l) }

/-- `MemWrite(a, 4, v)` with the checks of 60_exceptions.md R212, in order: unmapped or misaligned, busy, read-only,
else the write. A refused write has no effect but the error. -/
def busWrite (s : State) (a : Addr) (v : Word32) : State :=
  match locate a with
  | none => raiseError s codeBusUnmapped (accessInfo true a)
  | some l =>
    if s.busy && !openWhileBusy l then raiseError s codeBusyAccess (accessInfo true a)
    else if readOnly l then raiseError s codeRoWrite (accessInfo true a)
    else writeLoc s l v

/-- What a host event does to the block. -/
def hostEvent (s : State) : HostEvent → State
  | .idle => s
  | .read a => busRead s a
  | .write a v => busWrite s a v
  | .reset => resetAll s

/-- Going to the next slot of the schedule: the read data of the step before is no longer on the bus. -/
def nextSlot (s : State) (rest : List Slot) : State := { s with inputs := rest, rdata := none }

/-- The address of CMD (10_state.md R22). -/
def cmdAddr : Addr := 0x0004#16

/-- The slot in which the host writes the command word `w` to CMD and the sequencer acts at once. -/
def commandSlot (w : Word32) : Slot := ⟨.write cmdAddr w, true⟩

end Sys2Proof.Machine
end

