-- ==== Sys2Proof/Machine/Hashing.lean ====
section
/-! DEFINITION. The anti-shortcut function, the hash chain and the final fold: ANTI, CHAIN and FOLD
(spec/44_hashing.md). Their functions are fields of K (R183). -/

namespace Sys2Proof.Machine

/-- `n` applications of `K.HCHAIN`, "each iteration's output feeding the next" (44_hashing.md R181). -/
def hchainTimes (k : ProtocolK) : Nat → Bytes32 → Bytes32
  | 0, x => x
  | n + 1, x => hchainTimes k n (k.hchain x)

/-- `K.CHAIN_MAP(P[K.CHAIN_POS])`, 1 to 3 (44_hashing.md R181, R183). -/
def chainCount (k : ProtocolK) (p : Bytes32) : Nat := (k.chainLess1 p[k.chainPos]).val + 1

/-- Stage 5: `A <- K.ANTI(P)` (44_hashing.md R180). -/
def antiStage (k : ProtocolK) (s : State) : State := s.setAux (k.anti s.prod)

/-- Stage 6: H from P, hashed `chainCount` times (44_hashing.md R181). -/
def chainStage (k : ProtocolK) (s : State) : State :=
  s.setChain (hchainTimes k (chainCount k s.prod) s.prod)

/-- Stage 8: `R <- K.HFINAL(H ^ A)` (44_hashing.md R182). -/
def foldStage (k : ProtocolK) (s : State) : State := s.setResult (k.hfinal (xorBytes s.chain s.aux))

/-- ANTI (44_hashing.md R180). -/
def execAnti (s : State) : Host.Outcome State Fault Refusal := .next (complete (antiStage Config.protocolK s))

/-- CHAIN (44_hashing.md R181). -/
def execChain (s : State) : Host.Outcome State Fault Refusal := .next (complete (chainStage Config.protocolK s))

/-- FOLD (44_hashing.md R182). -/
def execFold (s : State) : Host.Outcome State Fault Refusal := .next (complete (foldStage Config.protocolK s))

end Sys2Proof.Machine
end

