-- ==== Sys2Proof/Machine/Mixing.lean ====
section
/-! DEFINITION. The matrix-vector multiplier and the octonion mixer: MVMUL and OCT (spec/42_mixing.md). Every function
takes the record K as an argument; the commands apply them to `Config.protocolK`. -/

namespace Sys2Proof.Machine

/-! ## Stages 1-2 -/

/-- `sum_k(i)` for a row of M: the exact sum of the products with the nibble vector (42_mixing.md R143). -/
def weightedSum (row nib : Vector Nibble 64) : Nat :=
  ((List.finRange 64).map fun j => row[j].toNat * nib[j].toNat).sum

/-- `K.MV_COMBINE` of the four sums of output byte `i`, k = 1..4 held as 0..3 (42_mixing.md R143, R144). -/
def mvPair (k : ProtocolK) (m : Matrix) (nib : Vector Nibble 64) (i : Fin 32) : Byte × Byte :=
  k.mvCombine i (weightedSum m[k.rowsel 0 i] nib) (weightedSum m[k.rowsel 1 i] nib)
    (weightedSum m[k.rowsel 2 i] nib) (weightedSum m[k.rowsel 3 i] nib)

/-- Stages 1-2: P and N from M and D, both XORed with D (42_mixing.md R141). -/
def mvmulStage (k : ProtocolK) (s : State) : State :=
  s.setProducts (Vector.ofFn fun i => (mvPair k s.m (nibbleVector s.digest) i).1 ^^^ s.digest[i])
    (Vector.ofFn fun i => (mvPair k s.m (nibbleVector s.digest) i).2 ^^^ s.digest[i])

/-! ## Stage 3 -/

/-- The least component that is neither 0, `i` nor `j`. -/
def otherUnit (i j : Fin 8) : Fin 8 :=
  if i ≠ 1 ∧ j ≠ 1 then 1 else if i ≠ 2 ∧ j ≠ 2 then 2 else 3

/-- `K.OCT_IDX(i, j)`: the record's choice for 1 ≤ i < j, brought into the constraints of 42_mixing.md R146 (log
entry 2): e0 is the identity, e_i·e_i is on e0, and distinct units give a third one, the same in both orders. -/
def octIdx (k : ProtocolK) (i j : Fin 8) : Fin 8 :=
  if i = 0 then j
  else if j = 0 then i
  else if i = j then 0
  else
    let c := k.octIdxChoice (min i j) (max i j)
    if c = 0 ∨ c = i ∨ c = j then otherUnit i j else c

/-- Whether `K.OCT_SGN(i, j)` is −1: never with e0, always for a square, and opposite in the two orders of distinct
units (42_mixing.md R146; log entry 2). -/
def octNeg (k : ProtocolK) (i j : Fin 8) : Bool :=
  if i = 0 ∨ j = 0 then false
  else if i = j then true
  else if i < j then k.octNegChoice i j
  else !k.octNegChoice j i

/-- `K.OCT_SGN(i, j) · a[i] · b[j]` modulo 2^64 (42_mixing.md R146). -/
def octTerm (k : ProtocolK) (a b : Octonion) (i j : Fin 8) : Word64 :=
  if octNeg k i j then -(a[i] * b[j]) else a[i] * b[j]

/-- `octmul(a, b)`, a on the left: component c sums the terms whose index is c (42_mixing.md R146). -/
def octmul (k : ProtocolK) (a b : Octonion) : Octonion :=
  Vector.ofFn fun e =>
    (List.finRange 8).foldl
      (fun acc i =>
        (List.finRange 8).foldl (fun acc j => if octIdx k i j = e then acc + octTerm k a b i j else acc) acc)
      0#64

/-- `K.OCT_ROUNDS`, at least 1 (42_mixing.md R147). -/
def octRounds (k : ProtocolK) : Nat := k.octRoundsLess1 + 1

/-- The first eight bytes of P as zero-extended components (42_mixing.md R145). -/
def octStart (p : Bytes32) : Octonion := Vector.ofFn fun i : Fin 8 => p[i.val].setWidth 64

/-- The window of round `r`, read from the P before OCT (42_mixing.md R145, R147). -/
def octWindowOf (k : ProtocolK) (p : Bytes32) (r : Nat) : Octonion :=
  Vector.ofFn fun i => p[k.octWindow r i].setWidth 64

/-- The accumulator after all rounds, in ascending order of r (42_mixing.md R145). -/
def octAccumulator (k : ProtocolK) (p : Bytes32) : Octonion :=
  (List.range (octRounds k)).foldl (fun a r => octmul k a (octWindowOf k p r)) (octStart p)

/-- The low byte of component k XORed into P[k], k = 0..7; P[8..31] stay (42_mixing.md R145). -/
def octWriteBack (p : Bytes32) (acc : Octonion) : Bytes32 :=
  Vector.ofFn fun i => if h : i.val < 8 then p[i] ^^^ acc[i.val].extractLsb' 0 8 else p[i]

/-- Stage 3: Q receives P, and P the mixed bytes (42_mixing.md R145). -/
def octStage (k : ProtocolK) (s : State) : State :=
  s.setOct (octWriteBack s.prod (octAccumulator k s.prod)) s.prod

/-! ## Commands -/

/-- MVMUL (42_mixing.md R141); it does not check MVALID. -/
def execMvmul (s : State) : Host.Outcome State Fault Refusal := .next (complete (mvmulStage Config.protocolK s))

/-- OCT (42_mixing.md R145). -/
def execOct (s : State) : Host.Outcome State Fault Refusal := .next (complete (octStage Config.protocolK s))

end Sys2Proof.Machine
end

