-- ==== Sys2Proof/Machine/SBox.lean ====
section
/-! DEFINITION. The S-box constructor and applier: SBOXGEN and SBOXAPP (spec/43_sbox.md). -/

namespace Sys2Proof.Machine

/-- `SB0[i] <- src[idx] ^ val` (43_sbox.md R162). -/
def sboxEntry (k : ProtocolK) (b : Bufs) (i : Fin 256) : Byte :=
  (bufsAt b (k.sboxSrc i))[k.sboxIdx i b] ^^^ k.sboxVal i b

/-- SB0, all 256 entries from the unchanged Bufs (43_sbox.md R161, R162). -/
def sboxInitial (k : ProtocolK) (b : Bufs) : Table := Vector.ofFn (sboxEntry k b)

/-- `iters`, 1 or 2, from the PROD of when SBOXGEN runs (43_sbox.md R163). -/
def sboxIters (k : ProtocolK) (b : Bufs) : Nat := (k.sboxIterLess1 b.p[k.sboxIterPos]).val + 1

/-- `n` refinement passes (43_sbox.md R161, R164). -/
def refineTimes (k : ProtocolK) (b : Bufs) : Nat → Table → Table
  | 0, t => t
  | n + 1, t => refineTimes k b n (k.sboxRefine t b)

/-- Stage 4: SB replaced by the refined table; the old SB is never read (43_sbox.md R161). -/
def sboxgenStage (k : ProtocolK) (s : State) : State :=
  s.setSb (refineTimes k s.bufs (sboxIters k s.bufs) (sboxInitial k s.bufs))

/-- Stage 7: `H[i] <- H[i] ^ SB[K.SAPP_IDX(i, Bufs)]` (43_sbox.md R165, R166). -/
def sboxappStage (k : ProtocolK) (s : State) : State :=
  s.setChain (Vector.ofFn fun i => s.chain[i] ^^^ s.sb[k.sappIdx i s.bufs])

/-- SBOXGEN (43_sbox.md R161). -/
def execSboxgen (s : State) : Host.Outcome State Fault Refusal := .next (complete (sboxgenStage Config.protocolK s))

/-- SBOXAPP (43_sbox.md R165). -/
def execSboxapp (s : State) : Host.Outcome State Fault Refusal := .next (complete (sboxappStage Config.protocolK s))

end Sys2Proof.Machine
end

