-- ==== Sys2Proof/Machine/Compare.lean ====
section
/-! DEFINITION. The PoW comparator and the whole evaluation: CMP and EVAL (spec/45_compare.md). -/

namespace Sys2Proof.Machine

/-- The comparison: PASS from RESULT and TARGET (45_compare.md R190). -/
def cmpStage (s : State) : State := s.setPass (passFlag s.result s.target)

/-- The eight stages in order, each applied to the state the one before left (45_compare.md R192). -/
def evalStages (k : ProtocolK) (s : State) : State :=
  let s1 := mvmulStage k s
  let s2 := octStage k s1
  let s3 := sboxgenStage k s2
  let s4 := antiStage k s3
  let s5 := chainStage k s4
  let s6 := sboxappStage k s5
  let s7 := foldStage k s6
  cmpStage s7

/-- CMP (45_compare.md R190). -/
def execCmp (s : State) : Host.Outcome State Fault Refusal := .next (complete (cmpStage s))

/-- EVAL (45_compare.md R192): one completion; no intermediate state is committed. -/
def execEval (s : State) : Host.Outcome State Fault Refusal := .next (complete (evalStages Config.protocolK s))

end Sys2Proof.Machine
end

