-- ==== Sys2Proof/Machine/Control.lean ====
section
/-! DEFINITION. The control commands: NOP and ACK (spec/46_control.md). -/

namespace Sys2Proof.Machine

/-- NOP (46_control.md R200): no data change; BUSY <- 0, DONE <- 1. -/
def execNop (s : State) : Host.Outcome State Fault Refusal := .next (complete s)

/-- ACK (46_control.md R201): the recorded error is cleared, BUSY <- 0, and DONE stays as acceptance left it. -/
def execAck (s : State) : Host.Outcome State Fault Refusal := .next (retire (clearError s))

end Sys2Proof.Machine
end

