-- ==== Sys2Proof/Machine/Generator.lean ====
section
/-! DEFINITION. The deterministic word generator: GSEED and GNEXT (spec/40_generator.md). -/

namespace Sys2Proof.Machine

/-- `xnext`, one step of xoshiro256++ (40_generator.md R113): the output word and the next state. -/
def xnext (g : Gen) : Word64 × Gen :=
  let result := (g.s0 + g.s3).rotateLeft 23 + g.s0
  let t := g.s1 <<< 17
  let s2 := g.s2 ^^^ g.s0
  let s3 := g.s3 ^^^ g.s1
  let s1 := g.s1 ^^^ s2
  let s0 := g.s0 ^^^ s3
  let s2' := s2 ^^^ t
  let s3' := s3.rotateLeft 45
  (result, ⟨s0, s1, s2', s3'⟩)

/-- The generator state a seed gives: lane k is `LE64(SEED[8k..8k+7])` (40_generator.md R111). -/
def seedGen (seed : Bytes32) : Gen := ⟨le64 seed 0, le64 seed 1, le64 seed 2, le64 seed 3⟩

/-- GSEED (40_generator.md R111): S0..S3 loaded from SEED. -/
def execGseed (s : State) : Host.Outcome State Fault Refusal :=
  .next (complete (s.setGen (seedGen s.seed)))

/-- GNEXT (40_generator.md R112): one word drawn into WORD, S0..S3 advanced. -/
def execGnext (s : State) : Host.Outcome State Fault Refusal :=
  let d := xnext s.gen
  .next (complete (({ s with word := d.1 } : State).setGen d.2))

end Sys2Proof.Machine
end

