-- ==== Sys2Proof/Machine/Binary64.lean ====
section
/-! DEFINITION. IEEE 754 binary64 arithmetic of the Rank Computer (00_scope.md R13; 41_matrix.md R126): division,
multiplication and subtraction, each computed exactly and rounded ONCE, to nearest, ties to even. The values are
hidden (10_state.md R40), so they are held decoded, with one NaN (log entry 11). -/

namespace Sys2Proof.Machine

/-- A binary64 value: a NaN, an infinity, or `±mant · 2^exp`, in the one canonical form that `Binary64.canonical`
states. -/
inductive Binary64 where
  | nan
  | inf (neg : Bool)
  | fin (neg : Bool) (mant : Nat) (exp : Int)
deriving DecidableEq, Repr, Inhabited

namespace Binary64

/-- The exponent of the least subnormal, and of the greatest finite value, for a 53-bit integer significand. -/
def minExp : Int := -1074

/-- See `minExp`. -/
def maxExp : Int := 971

/-- The canonical form of a finite value: a significand below 2^53, normalized unless the exponent is the least. -/
def canonical : Binary64 → Prop
  | .nan => True
  | .inf _ => True
  | .fin _ m e => m < 2 ^ 53 ∧ minExp ≤ e ∧ e ≤ maxExp ∧ (2 ^ 52 ≤ m ∨ e = minExp)

/-- A rounded significand with its exponent: an exponent above the greatest is an overflow, to infinity. -/
def pack (neg : Bool) (m : Nat) (e : Int) : Binary64 :=
  if maxExp < e then .inf neg else .fin neg m e

/-- Rounding to nearest, ties to even, of `±(m + δ) · 2^e`, where `0 < δ < 1` if `sticky` and `δ = 0` if not. A caller
with `sticky` gives `m` at least 55 bits, so that a bit below the rounding position is always cut off. -/
def round (neg : Bool) (m : Nat) (e : Int) (sticky : Bool) : Binary64 :=
  if m = 0 then .fin neg 0 minExp
  else
    let e' := max (e + (Nat.log2 m + 1 : Nat) - 53) minExp
    if e' ≤ e then pack neg (m <<< (e - e').toNat) e'
    else
      let sh := (e' - e).toNat
      let q := m >>> sh
      let r := m % 2 ^ sh
      let half := 2 ^ (sh - 1)
      let up := decide (half < r) || (r == half && (sticky || q % 2 == 1))
      let q' := if up then q + 1 else q
      if q' = 2 ^ 53 then pack neg (2 ^ 52) (e' + 1) else pack neg q' e'

/-- `f64(n)`, exact for the matrix entries 0..15 (00_scope.md R13). -/
def ofNat (n : Nat) : Binary64 := round false n 0 false

/-- `a *f b` (00_scope.md R13). -/
def mul : Binary64 → Binary64 → Binary64
  | .nan, _ => .nan
  | .inf _, .nan => .nan
  | .fin _ _ _, .nan => .nan
  | .inf n₁, .inf n₂ => .inf (n₁ != n₂)
  | .inf n₁, .fin n₂ m₂ _ => if m₂ = 0 then .nan else .inf (n₁ != n₂)
  | .fin n₁ m₁ _, .inf n₂ => if m₁ = 0 then .nan else .inf (n₁ != n₂)
  | .fin n₁ m₁ e₁, .fin n₂ m₂ e₂ => round (n₁ != n₂) (m₁ * m₂) (e₁ + e₂) false

/-- `a /f b` (00_scope.md R13). The quotient of the significands is taken to at least 57 bits; what is left over is the
sticky bit. -/
def div : Binary64 → Binary64 → Binary64
  | .nan, _ => .nan
  | .inf _, .nan => .nan
  | .fin _ _ _, .nan => .nan
  | .inf _, .inf _ => .nan
  | .inf n₁, .fin n₂ _ _ => .inf (n₁ != n₂)
  | .fin n₁ _ _, .inf n₂ => .fin (n₁ != n₂) 0 minExp
  | .fin n₁ m₁ e₁, .fin n₂ m₂ e₂ =>
    if m₂ = 0 then (if m₁ = 0 then .nan else .inf (n₁ != n₂))
    else
      let num := m₁ <<< 110
      round (n₁ != n₂) (num / m₂) (e₁ - 110 - e₂) (num % m₂ != 0)

/-- The signed significand at a lower exponent. -/
def alignedInt (neg : Bool) (m sh : Nat) : Int :=
  if neg then -((m <<< sh : Nat) : Int) else ((m <<< sh : Nat) : Int)

/-- `a -f b` (00_scope.md R13): an exact zero is +0 but for (−0) − (+0). -/
def sub : Binary64 → Binary64 → Binary64
  | .nan, _ => .nan
  | .inf _, .nan => .nan
  | .fin _ _ _, .nan => .nan
  | .inf n₁, .inf n₂ => if n₁ = n₂ then .nan else .inf n₁
  | .inf n₁, .fin _ _ _ => .inf n₁
  | .fin _ _ _, .inf n₂ => .inf (!n₂)
  | .fin n₁ m₁ e₁, .fin n₂ m₂ e₂ =>
    let e := min e₁ e₂
    let v := alignedInt n₁ m₁ (e₁ - e).toNat - alignedInt n₂ m₂ (e₂ - e).toNat
    if v = 0 then .fin (n₁ && !n₂) 0 minExp else round (decide (v < 0)) v.natAbs e false

/-- `EPS`, the binary64 value nearest to 1e-9: the significand 0x112E0BE826D695 at exponent −82 (00_scope.md R13). -/
def epsMant : Nat := 0x112E0BE826D695

/-- See `epsMant`. -/
def epsExp : Int := -82

/-- `|x| > EPS`, false for a NaN (41_matrix.md R126). -/
def absAboveEps : Binary64 → Bool
  | .nan => false
  | .inf _ => true
  | .fin _ m e =>
    let lo := min e epsExp
    decide (epsMant <<< (epsExp - lo).toNat < m <<< (e - lo).toNat)

end Binary64

end Sys2Proof.Machine
end

