-- ==== Sys2Proof/Machine/MatrixRank.lean ====
section
/-! DEFINITION. The Matrix Synthesizer and the Rank Computer: GENMAT and RANK (spec/41_matrix.md). -/

namespace Sys2Proof.Machine

/-! ## Candidate fill (R122) -/

/-- `n` successive draws from the generator, first word first, and the state they leave. -/
def drawWords : Nat → Gen → List Word64 × Gen
  | 0, g => ([], g)
  | n + 1, g =>
    let d := xnext g
    let rest := drawWords n d.2
    (d.1 :: rest.1, rest.2)

/-- Nibble `k` of a word: bits 4k+3..4k, low-order nibble first (41_matrix.md R122). -/
def nibbleOf (w : Word64) (k : Nat) : Nibble := w.extractLsb' (4 * k) 4

/-- The matrix 256 words fill: entry (r, c) is nibble (c mod 16) of word 4r + ⌊c/16⌋ (41_matrix.md R122). -/
def matrixOfWords (ws : List Word64) : Matrix :=
  Vector.ofFn fun r : Fin 64 =>
    let row := (ws.drop (4 * r.val)).take 4
    Vector.ofFn fun q : Fin 64 => nibbleOf (row.getD (q.val / 16) 0#64) (q.val % 16)

/-- `fill(S)`: 256 words drawn, the candidate they fill, and the next state (41_matrix.md R122). -/
@[irreducible] def fill (g : Gen) : Matrix × Gen :=
  let d := drawWords 256 g
  (matrixOfWords d.1, d.2)

/-! ## The Rank Computer (R124, R126) -/

/-- The hidden work state of a rank computation (10_state.md R40): W, SEL, and the count so far. Created at the start
of a rank computation and discarded at its end (log entry 9). -/
structure RankWork where
  w : Vector (Vector Binary64 64) 64
  sel : Vector Bool 64
  rk : Nat
deriving DecidableEq, Repr

/-- `W[r][c] <- f64(M[r][c])`, no row selected, rank 0 (41_matrix.md R124). -/
def rankStart (m : Matrix) : RankWork where
  w := Vector.ofFn fun r : Fin 64 => Vector.ofFn fun p : Fin 64 => Binary64.ofNat m[r][p].toNat
  sel := Vector.replicate 64 false
  rk := 0

/-- The least unselected row whose entry in column `i` is above EPS in magnitude (41_matrix.md R124). -/
def findPivot (x : RankWork) (i : Fin 64) : Option (Fin 64) :=
  (List.finRange 64).find? fun r => !x.sel[r] && Binary64.absAboveEps x.w[r][i]

/-- The pivot row normalized: its entries right of column `i` divided by the pivot (41_matrix.md R124). -/
def normalizeRow (row : Vector Binary64 64) (i : Fin 64) : Vector Binary64 64 :=
  Vector.ofFn fun p => if i < p then Binary64.div row[p] row[i] else row[p]

/-- Another row with column `i` eliminated, if its entry there is above EPS in magnitude (41_matrix.md R124). -/
def eliminateRow (row pivotRow : Vector Binary64 64) (i : Fin 64) : Vector Binary64 64 :=
  if Binary64.absAboveEps row[i] then
    Vector.ofFn fun p => if i < p then Binary64.sub row[p] (Binary64.mul pivotRow[p] row[i]) else row[p]
  else row

/-- One pass of R124's loop over the columns. -/
def rankColumn (x : RankWork) (i : Fin 64) : RankWork :=
  match findPivot x i with
  | none => x
  | some j =>
    let pivotRow := normalizeRow x.w[j] i
    { w := Vector.ofFn fun k => if k = j then pivotRow else eliminateRow x.w[k] pivotRow i
      sel := x.sel.set j true
      rk := x.rk + 1 }

/-- `rank(M)` (41_matrix.md R124): columns in ascending order. -/
@[irreducible] def rankOf (m : Matrix) : Nat := ((List.finRange 64).foldl rankColumn (rankStart m)).rk

/-! ## Commands -/

/-- Where a GENMAT stands: before its first attempt the seeded generator and no attempt (41_matrix.md R121). -/
def genmatProgress (s : State) : GenmatProgress := s.genmat.getD ⟨seedGen s.seed, 0#32⟩

/-- `n <- min(n + 1, 0xFFFFFFFF)` (41_matrix.md R121). -/
def bumpAttempts (n : Word32) : Word32 := if n = 0xFFFFFFFF#32 then n else n + 1#32

/-- The candidate this attempt draws, and the generator state after it (41_matrix.md R121, R122). -/
def genmatCandidate (s : State) : Matrix × Gen := fill (genmatProgress s).gen

/-- The attempt count n once this attempt is counted (41_matrix.md R121). -/
def genmatCount (s : State) : Word32 := bumpAttempts (genmatProgress s).n

/-- What a completing GENMAT commits, at rank 64 and at the cap alike: the candidate, the advanced generator state, its
rank, the count, and MVALID (41_matrix.md R121). -/
def genmatCommit (s : State) : State :=
  (s.setCandidate (genmatCandidate s).1 (genmatCandidate s).2 (genmatCount s)).setRank (rankOf (genmatCandidate s).1)

/-- One pass of R121's loop: one candidate and its rank test. At rank 64 the command completes; at the cap it
completes with GENMAT_CAP and the last candidate; else it stays in flight, and nothing but the hidden progress
changes (log entry 5). -/
def genmatAttempt (s : State) : State :=
  if rankOf (genmatCandidate s).1 = 64 then complete (genmatCommit s)
  else if s.cap ≠ 0#32 ∧ s.cap ≤ genmatCount s then
    complete (raiseError (genmatCommit s) codeGenmatCap (genmatCount s))
  else { s with genmat := some ⟨(genmatCandidate s).2, genmatCount s⟩ }

/-- GENMAT (41_matrix.md R121): each turn of the sequencer is one attempt, until one completes the command. A GENMAT
that never completes (00_scope.md R18) is one whose turns all leave BUSY = 1. -/
def execGenmat (s : State) : Host.Outcome State Fault Refusal := .next (genmatAttempt s)

/-- RANK (41_matrix.md R125): RANK and MVALID from M, which does not change. -/
def execRank (s : State) : Host.Outcome State Fault Refusal := .next (complete (s.setRank (rankOf s.m)))

end Sys2Proof.Machine
end

