-- ==== Sys2Proof/Machine/Dispatch.lean ====
section
/-! DEFINITION. One arm per command: its turn of the sequencer (10_state.md R44). -/

namespace Sys2Proof.Machine

def exec (i : Instr) (s : State) : Host.Outcome State Fault Refusal :=
  match i with
  | .nop => Sys2Proof.Machine.execNop s
  | .gseed => Sys2Proof.Machine.execGseed s
  | .gnext => Sys2Proof.Machine.execGnext s
  | .genmat => Sys2Proof.Machine.execGenmat s
  | .rank => Sys2Proof.Machine.execRank s
  | .mvmul => Sys2Proof.Machine.execMvmul s
  | .oct => Sys2Proof.Machine.execOct s
  | .sboxgen => Sys2Proof.Machine.execSboxgen s
  | .anti => Sys2Proof.Machine.execAnti s
  | .chain => Sys2Proof.Machine.execChain s
  | .sboxapp => Sys2Proof.Machine.execSboxapp s
  | .fold => Sys2Proof.Machine.execFold s
  | .cmp => Sys2Proof.Machine.execCmp s
  | .eval => Sys2Proof.Machine.execEval s
  | .ack => Sys2Proof.Machine.execAck s

end Sys2Proof.Machine
end

