-- ==== Sys2Proof/Machine/Sequencer.lean ====
section
/-! DEFINITION. The sequencer's turn and one slot of the total order of host transactions and completions
(10_state.md R44; 20_memory.md R70). -/

namespace Sys2Proof.Machine

/-- The sequencer's turn: the command in LATCH has its effect (10_state.md R44). With BUSY = 0 there is none. -/
def sequencerTurn (s : State) : Host.Outcome State Fault Refusal :=
  if s.busy then
    match s.latch with
    | some i => exec i s
    | none => .fault .latchEmpty
  else .next s

/-- One slot: its host event, then, if the slot says so, the sequencer's turn (20_memory.md R70; log entry 4). -/
def slotStep (s : State) (slot : Slot) : Host.Outcome State Fault Refusal :=
  let s' := hostEvent s slot.event
  if slot.tick then sequencerTurn s' else .next s'

/-- A state with no command in flight, the host about to write the command word `w` to CMD and the sequencer to act in
the same slot (log entry 8). -/
def withCommand (s : State) (w : Word32) : State :=
  { s with busy := false, latch := none, genmat := none, inputs := commandSlot w :: s.inputs }

end Sys2Proof.Machine
end

