-- ==== Sys2Proof/Machine/Step.lean ====
section
/-! DEFINITION. The step function: one slot of the total order of host transactions and completions (20_memory.md
R70), and how the host's checks place an instruction. -/

namespace Sys2Proof.Machine

/-- One step: the next slot of the schedule. With no slot left the block waits for the host
(70_reset_and_hazards.md R242; log entry 12). -/
def step (s : State) : Host.Outcome State Fault Refusal :=
  match s.inputs with
  | [] => .next (nextSlot s [])
  | slot :: rest => slotStep (nextSlot s rest) slot

/-- The state in which the very next step runs the command word of the low `nbits` bits of `w`: the host writes it to
CMD and the sequencer acts in the same slot (log entry 8). -/
def State.withFetchWord (s : State) (nbits w : Nat) : State := withCommand s (BitVec.ofNat 32 (w % 2 ^ nbits))

end Sys2Proof.Machine
end

