-- ==== Sys2Proof/Laws/State.lean ====
section
/-! SUPPORT. One lemma per field per named update of State, tagged @[simp], so that no later proof unfolds a record
update. The updates that branch (raiseError, setReg64, setBuf) have theirs by cases.
The proofs read `(rfl)` so that simp cites the lemma: unfolding the update instead makes the kernel evaluate what is written. -/

namespace Sys2Proof.Machine

variable (s : State)

/-! ## retire -/

@[simp] theorem retire_busy : (retire s).busy = false := (rfl)
@[simp] theorem retire_done : (retire s).done = s.done := (rfl)
@[simp] theorem retire_mvalid : (retire s).mvalid = s.mvalid := (rfl)
@[simp] theorem retire_pass : (retire s).pass = s.pass := (rfl)
@[simp] theorem retire_eovf : (retire s).eovf = s.eovf := (rfl)
@[simp] theorem retire_errcode : (retire s).errcode = s.errcode := (rfl)
@[simp] theorem retire_ie : (retire s).ie = s.ie := (rfl)
@[simp] theorem retire_rank : (retire s).rank = s.rank := (rfl)
@[simp] theorem retire_attempts : (retire s).attempts = s.attempts := (rfl)
@[simp] theorem retire_cap : (retire s).cap = s.cap := (rfl)
@[simp] theorem retire_errinfo : (retire s).errinfo = s.errinfo := (rfl)
@[simp] theorem retire_word : (retire s).word = s.word := (rfl)
@[simp] theorem retire_s0 : (retire s).s0 = s.s0 := (rfl)
@[simp] theorem retire_s1 : (retire s).s1 = s.s1 := (rfl)
@[simp] theorem retire_s2 : (retire s).s2 = s.s2 := (rfl)
@[simp] theorem retire_s3 : (retire s).s3 = s.s3 := (rfl)
@[simp] theorem retire_seed : (retire s).seed = s.seed := (rfl)
@[simp] theorem retire_digest : (retire s).digest = s.digest := (rfl)
@[simp] theorem retire_prod : (retire s).prod = s.prod := (rfl)
@[simp] theorem retire_nprod : (retire s).nprod = s.nprod := (rfl)
@[simp] theorem retire_preoct : (retire s).preoct = s.preoct := (rfl)
@[simp] theorem retire_aux : (retire s).aux = s.aux := (rfl)
@[simp] theorem retire_chain : (retire s).chain = s.chain := (rfl)
@[simp] theorem retire_result : (retire s).result = s.result := (rfl)
@[simp] theorem retire_target : (retire s).target = s.target := (rfl)
@[simp] theorem retire_sb : (retire s).sb = s.sb := (rfl)
@[simp] theorem retire_m : (retire s).m = s.m := (rfl)
@[simp] theorem retire_latch : (retire s).latch = none := (rfl)
@[simp] theorem retire_genmat : (retire s).genmat = none := (rfl)
@[simp] theorem retire_rdata : (retire s).rdata = s.rdata := (rfl)
@[simp] theorem retire_inputs : (retire s).inputs = s.inputs := (rfl)

/-! ## complete -/

@[simp] theorem complete_busy : (complete s).busy = false := (rfl)
@[simp] theorem complete_done : (complete s).done = true := (rfl)
@[simp] theorem complete_mvalid : (complete s).mvalid = s.mvalid := (rfl)
@[simp] theorem complete_pass : (complete s).pass = s.pass := (rfl)
@[simp] theorem complete_eovf : (complete s).eovf = s.eovf := (rfl)
@[simp] theorem complete_errcode : (complete s).errcode = s.errcode := (rfl)
@[simp] theorem complete_ie : (complete s).ie = s.ie := (rfl)
@[simp] theorem complete_rank : (complete s).rank = s.rank := (rfl)
@[simp] theorem complete_attempts : (complete s).attempts = s.attempts := (rfl)
@[simp] theorem complete_cap : (complete s).cap = s.cap := (rfl)
@[simp] theorem complete_errinfo : (complete s).errinfo = s.errinfo := (rfl)
@[simp] theorem complete_word : (complete s).word = s.word := (rfl)
@[simp] theorem complete_s0 : (complete s).s0 = s.s0 := (rfl)
@[simp] theorem complete_s1 : (complete s).s1 = s.s1 := (rfl)
@[simp] theorem complete_s2 : (complete s).s2 = s.s2 := (rfl)
@[simp] theorem complete_s3 : (complete s).s3 = s.s3 := (rfl)
@[simp] theorem complete_seed : (complete s).seed = s.seed := (rfl)
@[simp] theorem complete_digest : (complete s).digest = s.digest := (rfl)
@[simp] theorem complete_prod : (complete s).prod = s.prod := (rfl)
@[simp] theorem complete_nprod : (complete s).nprod = s.nprod := (rfl)
@[simp] theorem complete_preoct : (complete s).preoct = s.preoct := (rfl)
@[simp] theorem complete_aux : (complete s).aux = s.aux := (rfl)
@[simp] theorem complete_chain : (complete s).chain = s.chain := (rfl)
@[simp] theorem complete_result : (complete s).result = s.result := (rfl)
@[simp] theorem complete_target : (complete s).target = s.target := (rfl)
@[simp] theorem complete_sb : (complete s).sb = s.sb := (rfl)
@[simp] theorem complete_m : (complete s).m = s.m := (rfl)
@[simp] theorem complete_latch : (complete s).latch = none := (rfl)
@[simp] theorem complete_genmat : (complete s).genmat = none := (rfl)
@[simp] theorem complete_rdata : (complete s).rdata = s.rdata := (rfl)
@[simp] theorem complete_inputs : (complete s).inputs = s.inputs := (rfl)

/-! ## accept -/

@[simp] theorem accept_busy (i : Instr) : (accept s i).busy = true := (rfl)
@[simp] theorem accept_done (i : Instr) : (accept s i).done = false := (rfl)
@[simp] theorem accept_mvalid (i : Instr) : (accept s i).mvalid = s.mvalid := (rfl)
@[simp] theorem accept_pass (i : Instr) : (accept s i).pass = s.pass := (rfl)
@[simp] theorem accept_eovf (i : Instr) : (accept s i).eovf = s.eovf := (rfl)
@[simp] theorem accept_errcode (i : Instr) : (accept s i).errcode = s.errcode := (rfl)
@[simp] theorem accept_ie (i : Instr) : (accept s i).ie = s.ie := (rfl)
@[simp] theorem accept_rank (i : Instr) : (accept s i).rank = s.rank := (rfl)
@[simp] theorem accept_attempts (i : Instr) : (accept s i).attempts = s.attempts := (rfl)
@[simp] theorem accept_cap (i : Instr) : (accept s i).cap = s.cap := (rfl)
@[simp] theorem accept_errinfo (i : Instr) : (accept s i).errinfo = s.errinfo := (rfl)
@[simp] theorem accept_word (i : Instr) : (accept s i).word = s.word := (rfl)
@[simp] theorem accept_s0 (i : Instr) : (accept s i).s0 = s.s0 := (rfl)
@[simp] theorem accept_s1 (i : Instr) : (accept s i).s1 = s.s1 := (rfl)
@[simp] theorem accept_s2 (i : Instr) : (accept s i).s2 = s.s2 := (rfl)
@[simp] theorem accept_s3 (i : Instr) : (accept s i).s3 = s.s3 := (rfl)
@[simp] theorem accept_seed (i : Instr) : (accept s i).seed = s.seed := (rfl)
@[simp] theorem accept_digest (i : Instr) : (accept s i).digest = s.digest := (rfl)
@[simp] theorem accept_prod (i : Instr) : (accept s i).prod = s.prod := (rfl)
@[simp] theorem accept_nprod (i : Instr) : (accept s i).nprod = s.nprod := (rfl)
@[simp] theorem accept_preoct (i : Instr) : (accept s i).preoct = s.preoct := (rfl)
@[simp] theorem accept_aux (i : Instr) : (accept s i).aux = s.aux := (rfl)
@[simp] theorem accept_chain (i : Instr) : (accept s i).chain = s.chain := (rfl)
@[simp] theorem accept_result (i : Instr) : (accept s i).result = s.result := (rfl)
@[simp] theorem accept_target (i : Instr) : (accept s i).target = s.target := (rfl)
@[simp] theorem accept_sb (i : Instr) : (accept s i).sb = s.sb := (rfl)
@[simp] theorem accept_m (i : Instr) : (accept s i).m = s.m := (rfl)
@[simp] theorem accept_latch (i : Instr) : (accept s i).latch = some i := (rfl)
@[simp] theorem accept_genmat (i : Instr) : (accept s i).genmat = none := (rfl)
@[simp] theorem accept_rdata (i : Instr) : (accept s i).rdata = s.rdata := (rfl)
@[simp] theorem accept_inputs (i : Instr) : (accept s i).inputs = s.inputs := (rfl)

/-! ## clearError -/

@[simp] theorem clearError_busy : (clearError s).busy = s.busy := (rfl)
@[simp] theorem clearError_done : (clearError s).done = s.done := (rfl)
@[simp] theorem clearError_mvalid : (clearError s).mvalid = s.mvalid := (rfl)
@[simp] theorem clearError_pass : (clearError s).pass = s.pass := (rfl)
@[simp] theorem clearError_eovf : (clearError s).eovf = false := (rfl)
@[simp] theorem clearError_errcode : (clearError s).errcode = 0#8 := (rfl)
@[simp] theorem clearError_ie : (clearError s).ie = s.ie := (rfl)
@[simp] theorem clearError_rank : (clearError s).rank = s.rank := (rfl)
@[simp] theorem clearError_attempts : (clearError s).attempts = s.attempts := (rfl)
@[simp] theorem clearError_cap : (clearError s).cap = s.cap := (rfl)
@[simp] theorem clearError_errinfo : (clearError s).errinfo = 0#32 := (rfl)
@[simp] theorem clearError_word : (clearError s).word = s.word := (rfl)
@[simp] theorem clearError_s0 : (clearError s).s0 = s.s0 := (rfl)
@[simp] theorem clearError_s1 : (clearError s).s1 = s.s1 := (rfl)
@[simp] theorem clearError_s2 : (clearError s).s2 = s.s2 := (rfl)
@[simp] theorem clearError_s3 : (clearError s).s3 = s.s3 := (rfl)
@[simp] theorem clearError_seed : (clearError s).seed = s.seed := (rfl)
@[simp] theorem clearError_digest : (clearError s).digest = s.digest := (rfl)
@[simp] theorem clearError_prod : (clearError s).prod = s.prod := (rfl)
@[simp] theorem clearError_nprod : (clearError s).nprod = s.nprod := (rfl)
@[simp] theorem clearError_preoct : (clearError s).preoct = s.preoct := (rfl)
@[simp] theorem clearError_aux : (clearError s).aux = s.aux := (rfl)
@[simp] theorem clearError_chain : (clearError s).chain = s.chain := (rfl)
@[simp] theorem clearError_result : (clearError s).result = s.result := (rfl)
@[simp] theorem clearError_target : (clearError s).target = s.target := (rfl)
@[simp] theorem clearError_sb : (clearError s).sb = s.sb := (rfl)
@[simp] theorem clearError_m : (clearError s).m = s.m := (rfl)
@[simp] theorem clearError_latch : (clearError s).latch = s.latch := (rfl)
@[simp] theorem clearError_genmat : (clearError s).genmat = s.genmat := (rfl)
@[simp] theorem clearError_rdata : (clearError s).rdata = s.rdata := (rfl)
@[simp] theorem clearError_inputs : (clearError s).inputs = s.inputs := (rfl)

/-! ## setGen -/

@[simp] theorem setGen_busy (g : Gen) : (s.setGen g).busy = s.busy := (rfl)
@[simp] theorem setGen_done (g : Gen) : (s.setGen g).done = s.done := (rfl)
@[simp] theorem setGen_mvalid (g : Gen) : (s.setGen g).mvalid = s.mvalid := (rfl)
@[simp] theorem setGen_pass (g : Gen) : (s.setGen g).pass = s.pass := (rfl)
@[simp] theorem setGen_eovf (g : Gen) : (s.setGen g).eovf = s.eovf := (rfl)
@[simp] theorem setGen_errcode (g : Gen) : (s.setGen g).errcode = s.errcode := (rfl)
@[simp] theorem setGen_ie (g : Gen) : (s.setGen g).ie = s.ie := (rfl)
@[simp] theorem setGen_rank (g : Gen) : (s.setGen g).rank = s.rank := (rfl)
@[simp] theorem setGen_attempts (g : Gen) : (s.setGen g).attempts = s.attempts := (rfl)
@[simp] theorem setGen_cap (g : Gen) : (s.setGen g).cap = s.cap := (rfl)
@[simp] theorem setGen_errinfo (g : Gen) : (s.setGen g).errinfo = s.errinfo := (rfl)
@[simp] theorem setGen_word (g : Gen) : (s.setGen g).word = s.word := (rfl)
@[simp] theorem setGen_s0 (g : Gen) : (s.setGen g).s0 = g.s0 := (rfl)
@[simp] theorem setGen_s1 (g : Gen) : (s.setGen g).s1 = g.s1 := (rfl)
@[simp] theorem setGen_s2 (g : Gen) : (s.setGen g).s2 = g.s2 := (rfl)
@[simp] theorem setGen_s3 (g : Gen) : (s.setGen g).s3 = g.s3 := (rfl)
@[simp] theorem setGen_seed (g : Gen) : (s.setGen g).seed = s.seed := (rfl)
@[simp] theorem setGen_digest (g : Gen) : (s.setGen g).digest = s.digest := (rfl)
@[simp] theorem setGen_prod (g : Gen) : (s.setGen g).prod = s.prod := (rfl)
@[simp] theorem setGen_nprod (g : Gen) : (s.setGen g).nprod = s.nprod := (rfl)
@[simp] theorem setGen_preoct (g : Gen) : (s.setGen g).preoct = s.preoct := (rfl)
@[simp] theorem setGen_aux (g : Gen) : (s.setGen g).aux = s.aux := (rfl)
@[simp] theorem setGen_chain (g : Gen) : (s.setGen g).chain = s.chain := (rfl)
@[simp] theorem setGen_result (g : Gen) : (s.setGen g).result = s.result := (rfl)
@[simp] theorem setGen_target (g : Gen) : (s.setGen g).target = s.target := (rfl)
@[simp] theorem setGen_sb (g : Gen) : (s.setGen g).sb = s.sb := (rfl)
@[simp] theorem setGen_m (g : Gen) : (s.setGen g).m = s.m := (rfl)
@[simp] theorem setGen_latch (g : Gen) : (s.setGen g).latch = s.latch := (rfl)
@[simp] theorem setGen_genmat (g : Gen) : (s.setGen g).genmat = s.genmat := (rfl)
@[simp] theorem setGen_rdata (g : Gen) : (s.setGen g).rdata = s.rdata := (rfl)
@[simp] theorem setGen_inputs (g : Gen) : (s.setGen g).inputs = s.inputs := (rfl)

/-! ## setRank -/

@[simp] theorem setRank_busy (rk : Nat) : (s.setRank rk).busy = s.busy := (rfl)
@[simp] theorem setRank_done (rk : Nat) : (s.setRank rk).done = s.done := (rfl)
@[simp] theorem setRank_mvalid (rk : Nat) : (s.setRank rk).mvalid = mvalidFlag rk := (rfl)
@[simp] theorem setRank_pass (rk : Nat) : (s.setRank rk).pass = s.pass := (rfl)
@[simp] theorem setRank_eovf (rk : Nat) : (s.setRank rk).eovf = s.eovf := (rfl)
@[simp] theorem setRank_errcode (rk : Nat) : (s.setRank rk).errcode = s.errcode := (rfl)
@[simp] theorem setRank_ie (rk : Nat) : (s.setRank rk).ie = s.ie := (rfl)
@[simp] theorem setRank_rank (rk : Nat) : (s.setRank rk).rank = BitVec.ofNat 7 rk := (rfl)
@[simp] theorem setRank_attempts (rk : Nat) : (s.setRank rk).attempts = s.attempts := (rfl)
@[simp] theorem setRank_cap (rk : Nat) : (s.setRank rk).cap = s.cap := (rfl)
@[simp] theorem setRank_errinfo (rk : Nat) : (s.setRank rk).errinfo = s.errinfo := (rfl)
@[simp] theorem setRank_word (rk : Nat) : (s.setRank rk).word = s.word := (rfl)
@[simp] theorem setRank_s0 (rk : Nat) : (s.setRank rk).s0 = s.s0 := (rfl)
@[simp] theorem setRank_s1 (rk : Nat) : (s.setRank rk).s1 = s.s1 := (rfl)
@[simp] theorem setRank_s2 (rk : Nat) : (s.setRank rk).s2 = s.s2 := (rfl)
@[simp] theorem setRank_s3 (rk : Nat) : (s.setRank rk).s3 = s.s3 := (rfl)
@[simp] theorem setRank_seed (rk : Nat) : (s.setRank rk).seed = s.seed := (rfl)
@[simp] theorem setRank_digest (rk : Nat) : (s.setRank rk).digest = s.digest := (rfl)
@[simp] theorem setRank_prod (rk : Nat) : (s.setRank rk).prod = s.prod := (rfl)
@[simp] theorem setRank_nprod (rk : Nat) : (s.setRank rk).nprod = s.nprod := (rfl)
@[simp] theorem setRank_preoct (rk : Nat) : (s.setRank rk).preoct = s.preoct := (rfl)
@[simp] theorem setRank_aux (rk : Nat) : (s.setRank rk).aux = s.aux := (rfl)
@[simp] theorem setRank_chain (rk : Nat) : (s.setRank rk).chain = s.chain := (rfl)
@[simp] theorem setRank_result (rk : Nat) : (s.setRank rk).result = s.result := (rfl)
@[simp] theorem setRank_target (rk : Nat) : (s.setRank rk).target = s.target := (rfl)
@[simp] theorem setRank_sb (rk : Nat) : (s.setRank rk).sb = s.sb := (rfl)
@[simp] theorem setRank_m (rk : Nat) : (s.setRank rk).m = s.m := (rfl)
@[simp] theorem setRank_latch (rk : Nat) : (s.setRank rk).latch = s.latch := (rfl)
@[simp] theorem setRank_genmat (rk : Nat) : (s.setRank rk).genmat = s.genmat := (rfl)
@[simp] theorem setRank_rdata (rk : Nat) : (s.setRank rk).rdata = s.rdata := (rfl)
@[simp] theorem setRank_inputs (rk : Nat) : (s.setRank rk).inputs = s.inputs := (rfl)

/-! ## setCandidate -/

@[simp] theorem setCandidate_busy (mc : Matrix) (g : Gen) (n : Word32) : (s.setCandidate mc g n).busy = s.busy := (rfl)
@[simp] theorem setCandidate_done (mc : Matrix) (g : Gen) (n : Word32) : (s.setCandidate mc g n).done = s.done := (rfl)
@[simp] theorem setCandidate_mvalid (mc : Matrix) (g : Gen) (n : Word32) : (s.setCandidate mc g n).mvalid = s.mvalid := (rfl)
@[simp] theorem setCandidate_pass (mc : Matrix) (g : Gen) (n : Word32) : (s.setCandidate mc g n).pass = s.pass := (rfl)
@[simp] theorem setCandidate_eovf (mc : Matrix) (g : Gen) (n : Word32) : (s.setCandidate mc g n).eovf = s.eovf := (rfl)
@[simp] theorem setCandidate_errcode (mc : Matrix) (g : Gen) (n : Word32) : (s.setCandidate mc g n).errcode = s.errcode := (rfl)
@[simp] theorem setCandidate_ie (mc : Matrix) (g : Gen) (n : Word32) : (s.setCandidate mc g n).ie = s.ie := (rfl)
@[simp] theorem setCandidate_rank (mc : Matrix) (g : Gen) (n : Word32) : (s.setCandidate mc g n).rank = s.rank := (rfl)
@[simp] theorem setCandidate_attempts (mc : Matrix) (g : Gen) (n : Word32) : (s.setCandidate mc g n).attempts = n := (rfl)
@[simp] theorem setCandidate_cap (mc : Matrix) (g : Gen) (n : Word32) : (s.setCandidate mc g n).cap = s.cap := (rfl)
@[simp] theorem setCandidate_errinfo (mc : Matrix) (g : Gen) (n : Word32) : (s.setCandidate mc g n).errinfo = s.errinfo := (rfl)
@[simp] theorem setCandidate_word (mc : Matrix) (g : Gen) (n : Word32) : (s.setCandidate mc g n).word = s.word := (rfl)
@[simp] theorem setCandidate_s0 (mc : Matrix) (g : Gen) (n : Word32) : (s.setCandidate mc g n).s0 = g.s0 := (rfl)
@[simp] theorem setCandidate_s1 (mc : Matrix) (g : Gen) (n : Word32) : (s.setCandidate mc g n).s1 = g.s1 := (rfl)
@[simp] theorem setCandidate_s2 (mc : Matrix) (g : Gen) (n : Word32) : (s.setCandidate mc g n).s2 = g.s2 := (rfl)
@[simp] theorem setCandidate_s3 (mc : Matrix) (g : Gen) (n : Word32) : (s.setCandidate mc g n).s3 = g.s3 := (rfl)
@[simp] theorem setCandidate_seed (mc : Matrix) (g : Gen) (n : Word32) : (s.setCandidate mc g n).seed = s.seed := (rfl)
@[simp] theorem setCandidate_digest (mc : Matrix) (g : Gen) (n : Word32) : (s.setCandidate mc g n).digest = s.digest := (rfl)
@[simp] theorem setCandidate_prod (mc : Matrix) (g : Gen) (n : Word32) : (s.setCandidate mc g n).prod = s.prod := (rfl)
@[simp] theorem setCandidate_nprod (mc : Matrix) (g : Gen) (n : Word32) : (s.setCandidate mc g n).nprod = s.nprod := (rfl)
@[simp] theorem setCandidate_preoct (mc : Matrix) (g : Gen) (n : Word32) : (s.setCandidate mc g n).preoct = s.preoct := (rfl)
@[simp] theorem setCandidate_aux (mc : Matrix) (g : Gen) (n : Word32) : (s.setCandidate mc g n).aux = s.aux := (rfl)
@[simp] theorem setCandidate_chain (mc : Matrix) (g : Gen) (n : Word32) : (s.setCandidate mc g n).chain = s.chain := (rfl)
@[simp] theorem setCandidate_result (mc : Matrix) (g : Gen) (n : Word32) : (s.setCandidate mc g n).result = s.result := (rfl)
@[simp] theorem setCandidate_target (mc : Matrix) (g : Gen) (n : Word32) : (s.setCandidate mc g n).target = s.target := (rfl)
@[simp] theorem setCandidate_sb (mc : Matrix) (g : Gen) (n : Word32) : (s.setCandidate mc g n).sb = s.sb := (rfl)
@[simp] theorem setCandidate_m (mc : Matrix) (g : Gen) (n : Word32) : (s.setCandidate mc g n).m = mc := (rfl)
@[simp] theorem setCandidate_latch (mc : Matrix) (g : Gen) (n : Word32) : (s.setCandidate mc g n).latch = s.latch := (rfl)
@[simp] theorem setCandidate_genmat (mc : Matrix) (g : Gen) (n : Word32) : (s.setCandidate mc g n).genmat = s.genmat := (rfl)
@[simp] theorem setCandidate_rdata (mc : Matrix) (g : Gen) (n : Word32) : (s.setCandidate mc g n).rdata = s.rdata := (rfl)
@[simp] theorem setCandidate_inputs (mc : Matrix) (g : Gen) (n : Word32) : (s.setCandidate mc g n).inputs = s.inputs := (rfl)

/-! ## setProducts -/

@[simp] theorem setProducts_busy (p n : Bytes32) : (s.setProducts p n).busy = s.busy := (rfl)
@[simp] theorem setProducts_done (p n : Bytes32) : (s.setProducts p n).done = s.done := (rfl)
@[simp] theorem setProducts_mvalid (p n : Bytes32) : (s.setProducts p n).mvalid = s.mvalid := (rfl)
@[simp] theorem setProducts_pass (p n : Bytes32) : (s.setProducts p n).pass = s.pass := (rfl)
@[simp] theorem setProducts_eovf (p n : Bytes32) : (s.setProducts p n).eovf = s.eovf := (rfl)
@[simp] theorem setProducts_errcode (p n : Bytes32) : (s.setProducts p n).errcode = s.errcode := (rfl)
@[simp] theorem setProducts_ie (p n : Bytes32) : (s.setProducts p n).ie = s.ie := (rfl)
@[simp] theorem setProducts_rank (p n : Bytes32) : (s.setProducts p n).rank = s.rank := (rfl)
@[simp] theorem setProducts_attempts (p n : Bytes32) : (s.setProducts p n).attempts = s.attempts := (rfl)
@[simp] theorem setProducts_cap (p n : Bytes32) : (s.setProducts p n).cap = s.cap := (rfl)
@[simp] theorem setProducts_errinfo (p n : Bytes32) : (s.setProducts p n).errinfo = s.errinfo := (rfl)
@[simp] theorem setProducts_word (p n : Bytes32) : (s.setProducts p n).word = s.word := (rfl)
@[simp] theorem setProducts_s0 (p n : Bytes32) : (s.setProducts p n).s0 = s.s0 := (rfl)
@[simp] theorem setProducts_s1 (p n : Bytes32) : (s.setProducts p n).s1 = s.s1 := (rfl)
@[simp] theorem setProducts_s2 (p n : Bytes32) : (s.setProducts p n).s2 = s.s2 := (rfl)
@[simp] theorem setProducts_s3 (p n : Bytes32) : (s.setProducts p n).s3 = s.s3 := (rfl)
@[simp] theorem setProducts_seed (p n : Bytes32) : (s.setProducts p n).seed = s.seed := (rfl)
@[simp] theorem setProducts_digest (p n : Bytes32) : (s.setProducts p n).digest = s.digest := (rfl)
@[simp] theorem setProducts_prod (p n : Bytes32) : (s.setProducts p n).prod = p := (rfl)
@[simp] theorem setProducts_nprod (p n : Bytes32) : (s.setProducts p n).nprod = n := (rfl)
@[simp] theorem setProducts_preoct (p n : Bytes32) : (s.setProducts p n).preoct = s.preoct := (rfl)
@[simp] theorem setProducts_aux (p n : Bytes32) : (s.setProducts p n).aux = s.aux := (rfl)
@[simp] theorem setProducts_chain (p n : Bytes32) : (s.setProducts p n).chain = s.chain := (rfl)
@[simp] theorem setProducts_result (p n : Bytes32) : (s.setProducts p n).result = s.result := (rfl)
@[simp] theorem setProducts_target (p n : Bytes32) : (s.setProducts p n).target = s.target := (rfl)
@[simp] theorem setProducts_sb (p n : Bytes32) : (s.setProducts p n).sb = s.sb := (rfl)
@[simp] theorem setProducts_m (p n : Bytes32) : (s.setProducts p n).m = s.m := (rfl)
@[simp] theorem setProducts_latch (p n : Bytes32) : (s.setProducts p n).latch = s.latch := (rfl)
@[simp] theorem setProducts_genmat (p n : Bytes32) : (s.setProducts p n).genmat = s.genmat := (rfl)
@[simp] theorem setProducts_rdata (p n : Bytes32) : (s.setProducts p n).rdata = s.rdata := (rfl)
@[simp] theorem setProducts_inputs (p n : Bytes32) : (s.setProducts p n).inputs = s.inputs := (rfl)

/-! ## setOct -/

@[simp] theorem setOct_busy (p q : Bytes32) : (s.setOct p q).busy = s.busy := (rfl)
@[simp] theorem setOct_done (p q : Bytes32) : (s.setOct p q).done = s.done := (rfl)
@[simp] theorem setOct_mvalid (p q : Bytes32) : (s.setOct p q).mvalid = s.mvalid := (rfl)
@[simp] theorem setOct_pass (p q : Bytes32) : (s.setOct p q).pass = s.pass := (rfl)
@[simp] theorem setOct_eovf (p q : Bytes32) : (s.setOct p q).eovf = s.eovf := (rfl)
@[simp] theorem setOct_errcode (p q : Bytes32) : (s.setOct p q).errcode = s.errcode := (rfl)
@[simp] theorem setOct_ie (p q : Bytes32) : (s.setOct p q).ie = s.ie := (rfl)
@[simp] theorem setOct_rank (p q : Bytes32) : (s.setOct p q).rank = s.rank := (rfl)
@[simp] theorem setOct_attempts (p q : Bytes32) : (s.setOct p q).attempts = s.attempts := (rfl)
@[simp] theorem setOct_cap (p q : Bytes32) : (s.setOct p q).cap = s.cap := (rfl)
@[simp] theorem setOct_errinfo (p q : Bytes32) : (s.setOct p q).errinfo = s.errinfo := (rfl)
@[simp] theorem setOct_word (p q : Bytes32) : (s.setOct p q).word = s.word := (rfl)
@[simp] theorem setOct_s0 (p q : Bytes32) : (s.setOct p q).s0 = s.s0 := (rfl)
@[simp] theorem setOct_s1 (p q : Bytes32) : (s.setOct p q).s1 = s.s1 := (rfl)
@[simp] theorem setOct_s2 (p q : Bytes32) : (s.setOct p q).s2 = s.s2 := (rfl)
@[simp] theorem setOct_s3 (p q : Bytes32) : (s.setOct p q).s3 = s.s3 := (rfl)
@[simp] theorem setOct_seed (p q : Bytes32) : (s.setOct p q).seed = s.seed := (rfl)
@[simp] theorem setOct_digest (p q : Bytes32) : (s.setOct p q).digest = s.digest := (rfl)
@[simp] theorem setOct_prod (p q : Bytes32) : (s.setOct p q).prod = p := (rfl)
@[simp] theorem setOct_nprod (p q : Bytes32) : (s.setOct p q).nprod = s.nprod := (rfl)
@[simp] theorem setOct_preoct (p q : Bytes32) : (s.setOct p q).preoct = q := (rfl)
@[simp] theorem setOct_aux (p q : Bytes32) : (s.setOct p q).aux = s.aux := (rfl)
@[simp] theorem setOct_chain (p q : Bytes32) : (s.setOct p q).chain = s.chain := (rfl)
@[simp] theorem setOct_result (p q : Bytes32) : (s.setOct p q).result = s.result := (rfl)
@[simp] theorem setOct_target (p q : Bytes32) : (s.setOct p q).target = s.target := (rfl)
@[simp] theorem setOct_sb (p q : Bytes32) : (s.setOct p q).sb = s.sb := (rfl)
@[simp] theorem setOct_m (p q : Bytes32) : (s.setOct p q).m = s.m := (rfl)
@[simp] theorem setOct_latch (p q : Bytes32) : (s.setOct p q).latch = s.latch := (rfl)
@[simp] theorem setOct_genmat (p q : Bytes32) : (s.setOct p q).genmat = s.genmat := (rfl)
@[simp] theorem setOct_rdata (p q : Bytes32) : (s.setOct p q).rdata = s.rdata := (rfl)
@[simp] theorem setOct_inputs (p q : Bytes32) : (s.setOct p q).inputs = s.inputs := (rfl)

/-! ## setSb -/

@[simp] theorem setSb_busy (t : Table) : (s.setSb t).busy = s.busy := (rfl)
@[simp] theorem setSb_done (t : Table) : (s.setSb t).done = s.done := (rfl)
@[simp] theorem setSb_mvalid (t : Table) : (s.setSb t).mvalid = s.mvalid := (rfl)
@[simp] theorem setSb_pass (t : Table) : (s.setSb t).pass = s.pass := (rfl)
@[simp] theorem setSb_eovf (t : Table) : (s.setSb t).eovf = s.eovf := (rfl)
@[simp] theorem setSb_errcode (t : Table) : (s.setSb t).errcode = s.errcode := (rfl)
@[simp] theorem setSb_ie (t : Table) : (s.setSb t).ie = s.ie := (rfl)
@[simp] theorem setSb_rank (t : Table) : (s.setSb t).rank = s.rank := (rfl)
@[simp] theorem setSb_attempts (t : Table) : (s.setSb t).attempts = s.attempts := (rfl)
@[simp] theorem setSb_cap (t : Table) : (s.setSb t).cap = s.cap := (rfl)
@[simp] theorem setSb_errinfo (t : Table) : (s.setSb t).errinfo = s.errinfo := (rfl)
@[simp] theorem setSb_word (t : Table) : (s.setSb t).word = s.word := (rfl)
@[simp] theorem setSb_s0 (t : Table) : (s.setSb t).s0 = s.s0 := (rfl)
@[simp] theorem setSb_s1 (t : Table) : (s.setSb t).s1 = s.s1 := (rfl)
@[simp] theorem setSb_s2 (t : Table) : (s.setSb t).s2 = s.s2 := (rfl)
@[simp] theorem setSb_s3 (t : Table) : (s.setSb t).s3 = s.s3 := (rfl)
@[simp] theorem setSb_seed (t : Table) : (s.setSb t).seed = s.seed := (rfl)
@[simp] theorem setSb_digest (t : Table) : (s.setSb t).digest = s.digest := (rfl)
@[simp] theorem setSb_prod (t : Table) : (s.setSb t).prod = s.prod := (rfl)
@[simp] theorem setSb_nprod (t : Table) : (s.setSb t).nprod = s.nprod := (rfl)
@[simp] theorem setSb_preoct (t : Table) : (s.setSb t).preoct = s.preoct := (rfl)
@[simp] theorem setSb_aux (t : Table) : (s.setSb t).aux = s.aux := (rfl)
@[simp] theorem setSb_chain (t : Table) : (s.setSb t).chain = s.chain := (rfl)
@[simp] theorem setSb_result (t : Table) : (s.setSb t).result = s.result := (rfl)
@[simp] theorem setSb_target (t : Table) : (s.setSb t).target = s.target := (rfl)
@[simp] theorem setSb_sb (t : Table) : (s.setSb t).sb = t := (rfl)
@[simp] theorem setSb_m (t : Table) : (s.setSb t).m = s.m := (rfl)
@[simp] theorem setSb_latch (t : Table) : (s.setSb t).latch = s.latch := (rfl)
@[simp] theorem setSb_genmat (t : Table) : (s.setSb t).genmat = s.genmat := (rfl)
@[simp] theorem setSb_rdata (t : Table) : (s.setSb t).rdata = s.rdata := (rfl)
@[simp] theorem setSb_inputs (t : Table) : (s.setSb t).inputs = s.inputs := (rfl)

/-! ## setAux -/

@[simp] theorem setAux_busy (b : Bytes32) : (s.setAux b).busy = s.busy := (rfl)
@[simp] theorem setAux_done (b : Bytes32) : (s.setAux b).done = s.done := (rfl)
@[simp] theorem setAux_mvalid (b : Bytes32) : (s.setAux b).mvalid = s.mvalid := (rfl)
@[simp] theorem setAux_pass (b : Bytes32) : (s.setAux b).pass = s.pass := (rfl)
@[simp] theorem setAux_eovf (b : Bytes32) : (s.setAux b).eovf = s.eovf := (rfl)
@[simp] theorem setAux_errcode (b : Bytes32) : (s.setAux b).errcode = s.errcode := (rfl)
@[simp] theorem setAux_ie (b : Bytes32) : (s.setAux b).ie = s.ie := (rfl)
@[simp] theorem setAux_rank (b : Bytes32) : (s.setAux b).rank = s.rank := (rfl)
@[simp] theorem setAux_attempts (b : Bytes32) : (s.setAux b).attempts = s.attempts := (rfl)
@[simp] theorem setAux_cap (b : Bytes32) : (s.setAux b).cap = s.cap := (rfl)
@[simp] theorem setAux_errinfo (b : Bytes32) : (s.setAux b).errinfo = s.errinfo := (rfl)
@[simp] theorem setAux_word (b : Bytes32) : (s.setAux b).word = s.word := (rfl)
@[simp] theorem setAux_s0 (b : Bytes32) : (s.setAux b).s0 = s.s0 := (rfl)
@[simp] theorem setAux_s1 (b : Bytes32) : (s.setAux b).s1 = s.s1 := (rfl)
@[simp] theorem setAux_s2 (b : Bytes32) : (s.setAux b).s2 = s.s2 := (rfl)
@[simp] theorem setAux_s3 (b : Bytes32) : (s.setAux b).s3 = s.s3 := (rfl)
@[simp] theorem setAux_seed (b : Bytes32) : (s.setAux b).seed = s.seed := (rfl)
@[simp] theorem setAux_digest (b : Bytes32) : (s.setAux b).digest = s.digest := (rfl)
@[simp] theorem setAux_prod (b : Bytes32) : (s.setAux b).prod = s.prod := (rfl)
@[simp] theorem setAux_nprod (b : Bytes32) : (s.setAux b).nprod = s.nprod := (rfl)
@[simp] theorem setAux_preoct (b : Bytes32) : (s.setAux b).preoct = s.preoct := (rfl)
@[simp] theorem setAux_aux (b : Bytes32) : (s.setAux b).aux = b := (rfl)
@[simp] theorem setAux_chain (b : Bytes32) : (s.setAux b).chain = s.chain := (rfl)
@[simp] theorem setAux_result (b : Bytes32) : (s.setAux b).result = s.result := (rfl)
@[simp] theorem setAux_target (b : Bytes32) : (s.setAux b).target = s.target := (rfl)
@[simp] theorem setAux_sb (b : Bytes32) : (s.setAux b).sb = s.sb := (rfl)
@[simp] theorem setAux_m (b : Bytes32) : (s.setAux b).m = s.m := (rfl)
@[simp] theorem setAux_latch (b : Bytes32) : (s.setAux b).latch = s.latch := (rfl)
@[simp] theorem setAux_genmat (b : Bytes32) : (s.setAux b).genmat = s.genmat := (rfl)
@[simp] theorem setAux_rdata (b : Bytes32) : (s.setAux b).rdata = s.rdata := (rfl)
@[simp] theorem setAux_inputs (b : Bytes32) : (s.setAux b).inputs = s.inputs := (rfl)

/-! ## setChain -/

@[simp] theorem setChain_busy (b : Bytes32) : (s.setChain b).busy = s.busy := (rfl)
@[simp] theorem setChain_done (b : Bytes32) : (s.setChain b).done = s.done := (rfl)
@[simp] theorem setChain_mvalid (b : Bytes32) : (s.setChain b).mvalid = s.mvalid := (rfl)
@[simp] theorem setChain_pass (b : Bytes32) : (s.setChain b).pass = s.pass := (rfl)
@[simp] theorem setChain_eovf (b : Bytes32) : (s.setChain b).eovf = s.eovf := (rfl)
@[simp] theorem setChain_errcode (b : Bytes32) : (s.setChain b).errcode = s.errcode := (rfl)
@[simp] theorem setChain_ie (b : Bytes32) : (s.setChain b).ie = s.ie := (rfl)
@[simp] theorem setChain_rank (b : Bytes32) : (s.setChain b).rank = s.rank := (rfl)
@[simp] theorem setChain_attempts (b : Bytes32) : (s.setChain b).attempts = s.attempts := (rfl)
@[simp] theorem setChain_cap (b : Bytes32) : (s.setChain b).cap = s.cap := (rfl)
@[simp] theorem setChain_errinfo (b : Bytes32) : (s.setChain b).errinfo = s.errinfo := (rfl)
@[simp] theorem setChain_word (b : Bytes32) : (s.setChain b).word = s.word := (rfl)
@[simp] theorem setChain_s0 (b : Bytes32) : (s.setChain b).s0 = s.s0 := (rfl)
@[simp] theorem setChain_s1 (b : Bytes32) : (s.setChain b).s1 = s.s1 := (rfl)
@[simp] theorem setChain_s2 (b : Bytes32) : (s.setChain b).s2 = s.s2 := (rfl)
@[simp] theorem setChain_s3 (b : Bytes32) : (s.setChain b).s3 = s.s3 := (rfl)
@[simp] theorem setChain_seed (b : Bytes32) : (s.setChain b).seed = s.seed := (rfl)
@[simp] theorem setChain_digest (b : Bytes32) : (s.setChain b).digest = s.digest := (rfl)
@[simp] theorem setChain_prod (b : Bytes32) : (s.setChain b).prod = s.prod := (rfl)
@[simp] theorem setChain_nprod (b : Bytes32) : (s.setChain b).nprod = s.nprod := (rfl)
@[simp] theorem setChain_preoct (b : Bytes32) : (s.setChain b).preoct = s.preoct := (rfl)
@[simp] theorem setChain_aux (b : Bytes32) : (s.setChain b).aux = s.aux := (rfl)
@[simp] theorem setChain_chain (b : Bytes32) : (s.setChain b).chain = b := (rfl)
@[simp] theorem setChain_result (b : Bytes32) : (s.setChain b).result = s.result := (rfl)
@[simp] theorem setChain_target (b : Bytes32) : (s.setChain b).target = s.target := (rfl)
@[simp] theorem setChain_sb (b : Bytes32) : (s.setChain b).sb = s.sb := (rfl)
@[simp] theorem setChain_m (b : Bytes32) : (s.setChain b).m = s.m := (rfl)
@[simp] theorem setChain_latch (b : Bytes32) : (s.setChain b).latch = s.latch := (rfl)
@[simp] theorem setChain_genmat (b : Bytes32) : (s.setChain b).genmat = s.genmat := (rfl)
@[simp] theorem setChain_rdata (b : Bytes32) : (s.setChain b).rdata = s.rdata := (rfl)
@[simp] theorem setChain_inputs (b : Bytes32) : (s.setChain b).inputs = s.inputs := (rfl)

/-! ## setResult -/

@[simp] theorem setResult_busy (b : Bytes32) : (s.setResult b).busy = s.busy := (rfl)
@[simp] theorem setResult_done (b : Bytes32) : (s.setResult b).done = s.done := (rfl)
@[simp] theorem setResult_mvalid (b : Bytes32) : (s.setResult b).mvalid = s.mvalid := (rfl)
@[simp] theorem setResult_pass (b : Bytes32) : (s.setResult b).pass = s.pass := (rfl)
@[simp] theorem setResult_eovf (b : Bytes32) : (s.setResult b).eovf = s.eovf := (rfl)
@[simp] theorem setResult_errcode (b : Bytes32) : (s.setResult b).errcode = s.errcode := (rfl)
@[simp] theorem setResult_ie (b : Bytes32) : (s.setResult b).ie = s.ie := (rfl)
@[simp] theorem setResult_rank (b : Bytes32) : (s.setResult b).rank = s.rank := (rfl)
@[simp] theorem setResult_attempts (b : Bytes32) : (s.setResult b).attempts = s.attempts := (rfl)
@[simp] theorem setResult_cap (b : Bytes32) : (s.setResult b).cap = s.cap := (rfl)
@[simp] theorem setResult_errinfo (b : Bytes32) : (s.setResult b).errinfo = s.errinfo := (rfl)
@[simp] theorem setResult_word (b : Bytes32) : (s.setResult b).word = s.word := (rfl)
@[simp] theorem setResult_s0 (b : Bytes32) : (s.setResult b).s0 = s.s0 := (rfl)
@[simp] theorem setResult_s1 (b : Bytes32) : (s.setResult b).s1 = s.s1 := (rfl)
@[simp] theorem setResult_s2 (b : Bytes32) : (s.setResult b).s2 = s.s2 := (rfl)
@[simp] theorem setResult_s3 (b : Bytes32) : (s.setResult b).s3 = s.s3 := (rfl)
@[simp] theorem setResult_seed (b : Bytes32) : (s.setResult b).seed = s.seed := (rfl)
@[simp] theorem setResult_digest (b : Bytes32) : (s.setResult b).digest = s.digest := (rfl)
@[simp] theorem setResult_prod (b : Bytes32) : (s.setResult b).prod = s.prod := (rfl)
@[simp] theorem setResult_nprod (b : Bytes32) : (s.setResult b).nprod = s.nprod := (rfl)
@[simp] theorem setResult_preoct (b : Bytes32) : (s.setResult b).preoct = s.preoct := (rfl)
@[simp] theorem setResult_aux (b : Bytes32) : (s.setResult b).aux = s.aux := (rfl)
@[simp] theorem setResult_chain (b : Bytes32) : (s.setResult b).chain = s.chain := (rfl)
@[simp] theorem setResult_result (b : Bytes32) : (s.setResult b).result = b := (rfl)
@[simp] theorem setResult_target (b : Bytes32) : (s.setResult b).target = s.target := (rfl)
@[simp] theorem setResult_sb (b : Bytes32) : (s.setResult b).sb = s.sb := (rfl)
@[simp] theorem setResult_m (b : Bytes32) : (s.setResult b).m = s.m := (rfl)
@[simp] theorem setResult_latch (b : Bytes32) : (s.setResult b).latch = s.latch := (rfl)
@[simp] theorem setResult_genmat (b : Bytes32) : (s.setResult b).genmat = s.genmat := (rfl)
@[simp] theorem setResult_rdata (b : Bytes32) : (s.setResult b).rdata = s.rdata := (rfl)
@[simp] theorem setResult_inputs (b : Bytes32) : (s.setResult b).inputs = s.inputs := (rfl)

/-! ## setPass -/

@[simp] theorem setPass_busy (b : Bool) : (s.setPass b).busy = s.busy := (rfl)
@[simp] theorem setPass_done (b : Bool) : (s.setPass b).done = s.done := (rfl)
@[simp] theorem setPass_mvalid (b : Bool) : (s.setPass b).mvalid = s.mvalid := (rfl)
@[simp] theorem setPass_pass (b : Bool) : (s.setPass b).pass = b := (rfl)
@[simp] theorem setPass_eovf (b : Bool) : (s.setPass b).eovf = s.eovf := (rfl)
@[simp] theorem setPass_errcode (b : Bool) : (s.setPass b).errcode = s.errcode := (rfl)
@[simp] theorem setPass_ie (b : Bool) : (s.setPass b).ie = s.ie := (rfl)
@[simp] theorem setPass_rank (b : Bool) : (s.setPass b).rank = s.rank := (rfl)
@[simp] theorem setPass_attempts (b : Bool) : (s.setPass b).attempts = s.attempts := (rfl)
@[simp] theorem setPass_cap (b : Bool) : (s.setPass b).cap = s.cap := (rfl)
@[simp] theorem setPass_errinfo (b : Bool) : (s.setPass b).errinfo = s.errinfo := (rfl)
@[simp] theorem setPass_word (b : Bool) : (s.setPass b).word = s.word := (rfl)
@[simp] theorem setPass_s0 (b : Bool) : (s.setPass b).s0 = s.s0 := (rfl)
@[simp] theorem setPass_s1 (b : Bool) : (s.setPass b).s1 = s.s1 := (rfl)
@[simp] theorem setPass_s2 (b : Bool) : (s.setPass b).s2 = s.s2 := (rfl)
@[simp] theorem setPass_s3 (b : Bool) : (s.setPass b).s3 = s.s3 := (rfl)
@[simp] theorem setPass_seed (b : Bool) : (s.setPass b).seed = s.seed := (rfl)
@[simp] theorem setPass_digest (b : Bool) : (s.setPass b).digest = s.digest := (rfl)
@[simp] theorem setPass_prod (b : Bool) : (s.setPass b).prod = s.prod := (rfl)
@[simp] theorem setPass_nprod (b : Bool) : (s.setPass b).nprod = s.nprod := (rfl)
@[simp] theorem setPass_preoct (b : Bool) : (s.setPass b).preoct = s.preoct := (rfl)
@[simp] theorem setPass_aux (b : Bool) : (s.setPass b).aux = s.aux := (rfl)
@[simp] theorem setPass_chain (b : Bool) : (s.setPass b).chain = s.chain := (rfl)
@[simp] theorem setPass_result (b : Bool) : (s.setPass b).result = s.result := (rfl)
@[simp] theorem setPass_target (b : Bool) : (s.setPass b).target = s.target := (rfl)
@[simp] theorem setPass_sb (b : Bool) : (s.setPass b).sb = s.sb := (rfl)
@[simp] theorem setPass_m (b : Bool) : (s.setPass b).m = s.m := (rfl)
@[simp] theorem setPass_latch (b : Bool) : (s.setPass b).latch = s.latch := (rfl)
@[simp] theorem setPass_genmat (b : Bool) : (s.setPass b).genmat = s.genmat := (rfl)
@[simp] theorem setPass_rdata (b : Bool) : (s.setPass b).rdata = s.rdata := (rfl)
@[simp] theorem setPass_inputs (b : Bool) : (s.setPass b).inputs = s.inputs := (rfl)

/-! ## nextSlot -/

@[simp] theorem nextSlot_busy (rest : List Slot) : (nextSlot s rest).busy = s.busy := (rfl)
@[simp] theorem nextSlot_done (rest : List Slot) : (nextSlot s rest).done = s.done := (rfl)
@[simp] theorem nextSlot_mvalid (rest : List Slot) : (nextSlot s rest).mvalid = s.mvalid := (rfl)
@[simp] theorem nextSlot_pass (rest : List Slot) : (nextSlot s rest).pass = s.pass := (rfl)
@[simp] theorem nextSlot_eovf (rest : List Slot) : (nextSlot s rest).eovf = s.eovf := (rfl)
@[simp] theorem nextSlot_errcode (rest : List Slot) : (nextSlot s rest).errcode = s.errcode := (rfl)
@[simp] theorem nextSlot_ie (rest : List Slot) : (nextSlot s rest).ie = s.ie := (rfl)
@[simp] theorem nextSlot_rank (rest : List Slot) : (nextSlot s rest).rank = s.rank := (rfl)
@[simp] theorem nextSlot_attempts (rest : List Slot) : (nextSlot s rest).attempts = s.attempts := (rfl)
@[simp] theorem nextSlot_cap (rest : List Slot) : (nextSlot s rest).cap = s.cap := (rfl)
@[simp] theorem nextSlot_errinfo (rest : List Slot) : (nextSlot s rest).errinfo = s.errinfo := (rfl)
@[simp] theorem nextSlot_word (rest : List Slot) : (nextSlot s rest).word = s.word := (rfl)
@[simp] theorem nextSlot_s0 (rest : List Slot) : (nextSlot s rest).s0 = s.s0 := (rfl)
@[simp] theorem nextSlot_s1 (rest : List Slot) : (nextSlot s rest).s1 = s.s1 := (rfl)
@[simp] theorem nextSlot_s2 (rest : List Slot) : (nextSlot s rest).s2 = s.s2 := (rfl)
@[simp] theorem nextSlot_s3 (rest : List Slot) : (nextSlot s rest).s3 = s.s3 := (rfl)
@[simp] theorem nextSlot_seed (rest : List Slot) : (nextSlot s rest).seed = s.seed := (rfl)
@[simp] theorem nextSlot_digest (rest : List Slot) : (nextSlot s rest).digest = s.digest := (rfl)
@[simp] theorem nextSlot_prod (rest : List Slot) : (nextSlot s rest).prod = s.prod := (rfl)
@[simp] theorem nextSlot_nprod (rest : List Slot) : (nextSlot s rest).nprod = s.nprod := (rfl)
@[simp] theorem nextSlot_preoct (rest : List Slot) : (nextSlot s rest).preoct = s.preoct := (rfl)
@[simp] theorem nextSlot_aux (rest : List Slot) : (nextSlot s rest).aux = s.aux := (rfl)
@[simp] theorem nextSlot_chain (rest : List Slot) : (nextSlot s rest).chain = s.chain := (rfl)
@[simp] theorem nextSlot_result (rest : List Slot) : (nextSlot s rest).result = s.result := (rfl)
@[simp] theorem nextSlot_target (rest : List Slot) : (nextSlot s rest).target = s.target := (rfl)
@[simp] theorem nextSlot_sb (rest : List Slot) : (nextSlot s rest).sb = s.sb := (rfl)
@[simp] theorem nextSlot_m (rest : List Slot) : (nextSlot s rest).m = s.m := (rfl)
@[simp] theorem nextSlot_latch (rest : List Slot) : (nextSlot s rest).latch = s.latch := (rfl)
@[simp] theorem nextSlot_genmat (rest : List Slot) : (nextSlot s rest).genmat = s.genmat := (rfl)
@[simp] theorem nextSlot_rdata (rest : List Slot) : (nextSlot s rest).rdata = none := (rfl)
@[simp] theorem nextSlot_inputs (rest : List Slot) : (nextSlot s rest).inputs = rest := (rfl)

/-! ## resetAll -/

@[simp] theorem resetAll_busy : (resetAll s).busy = State.reset.busy := (rfl)
@[simp] theorem resetAll_done : (resetAll s).done = State.reset.done := (rfl)
@[simp] theorem resetAll_mvalid : (resetAll s).mvalid = State.reset.mvalid := (rfl)
@[simp] theorem resetAll_pass : (resetAll s).pass = State.reset.pass := (rfl)
@[simp] theorem resetAll_eovf : (resetAll s).eovf = State.reset.eovf := (rfl)
@[simp] theorem resetAll_errcode : (resetAll s).errcode = State.reset.errcode := (rfl)
@[simp] theorem resetAll_ie : (resetAll s).ie = State.reset.ie := (rfl)
@[simp] theorem resetAll_rank : (resetAll s).rank = State.reset.rank := (rfl)
@[simp] theorem resetAll_attempts : (resetAll s).attempts = State.reset.attempts := (rfl)
@[simp] theorem resetAll_cap : (resetAll s).cap = State.reset.cap := (rfl)
@[simp] theorem resetAll_errinfo : (resetAll s).errinfo = State.reset.errinfo := (rfl)
@[simp] theorem resetAll_word : (resetAll s).word = State.reset.word := (rfl)
@[simp] theorem resetAll_s0 : (resetAll s).s0 = State.reset.s0 := (rfl)
@[simp] theorem resetAll_s1 : (resetAll s).s1 = State.reset.s1 := (rfl)
@[simp] theorem resetAll_s2 : (resetAll s).s2 = State.reset.s2 := (rfl)
@[simp] theorem resetAll_s3 : (resetAll s).s3 = State.reset.s3 := (rfl)
@[simp] theorem resetAll_seed : (resetAll s).seed = State.reset.seed := (rfl)
@[simp] theorem resetAll_digest : (resetAll s).digest = State.reset.digest := (rfl)
@[simp] theorem resetAll_prod : (resetAll s).prod = State.reset.prod := (rfl)
@[simp] theorem resetAll_nprod : (resetAll s).nprod = State.reset.nprod := (rfl)
@[simp] theorem resetAll_preoct : (resetAll s).preoct = State.reset.preoct := (rfl)
@[simp] theorem resetAll_aux : (resetAll s).aux = State.reset.aux := (rfl)
@[simp] theorem resetAll_chain : (resetAll s).chain = State.reset.chain := (rfl)
@[simp] theorem resetAll_result : (resetAll s).result = State.reset.result := (rfl)
@[simp] theorem resetAll_target : (resetAll s).target = State.reset.target := (rfl)
@[simp] theorem resetAll_sb : (resetAll s).sb = State.reset.sb := (rfl)
@[simp] theorem resetAll_m : (resetAll s).m = State.reset.m := (rfl)
@[simp] theorem resetAll_latch : (resetAll s).latch = State.reset.latch := (rfl)
@[simp] theorem resetAll_genmat : (resetAll s).genmat = State.reset.genmat := (rfl)
@[simp] theorem resetAll_rdata : (resetAll s).rdata = State.reset.rdata := (rfl)
@[simp] theorem resetAll_inputs : (resetAll s).inputs = s.inputs := (rfl)

/-! ## raiseError: only ERRCODE, ERRINFO and EOVF can change -/

@[simp] theorem raiseError_busy (code : Byte) (info : Word32) : (raiseError s code info).busy = s.busy := by
  unfold raiseError; split <;> rfl
@[simp] theorem raiseError_done (code : Byte) (info : Word32) : (raiseError s code info).done = s.done := by
  unfold raiseError; split <;> rfl
@[simp] theorem raiseError_mvalid (code : Byte) (info : Word32) : (raiseError s code info).mvalid = s.mvalid := by
  unfold raiseError; split <;> rfl
@[simp] theorem raiseError_pass (code : Byte) (info : Word32) : (raiseError s code info).pass = s.pass := by
  unfold raiseError; split <;> rfl
@[simp] theorem raiseError_ie (code : Byte) (info : Word32) : (raiseError s code info).ie = s.ie := by
  unfold raiseError; split <;> rfl
@[simp] theorem raiseError_rank (code : Byte) (info : Word32) : (raiseError s code info).rank = s.rank := by
  unfold raiseError; split <;> rfl
@[simp] theorem raiseError_attempts (code : Byte) (info : Word32) : (raiseError s code info).attempts = s.attempts := by
  unfold raiseError; split <;> rfl
@[simp] theorem raiseError_cap (code : Byte) (info : Word32) : (raiseError s code info).cap = s.cap := by
  unfold raiseError; split <;> rfl
@[simp] theorem raiseError_word (code : Byte) (info : Word32) : (raiseError s code info).word = s.word := by
  unfold raiseError; split <;> rfl
@[simp] theorem raiseError_s0 (code : Byte) (info : Word32) : (raiseError s code info).s0 = s.s0 := by
  unfold raiseError; split <;> rfl
@[simp] theorem raiseError_s1 (code : Byte) (info : Word32) : (raiseError s code info).s1 = s.s1 := by
  unfold raiseError; split <;> rfl
@[simp] theorem raiseError_s2 (code : Byte) (info : Word32) : (raiseError s code info).s2 = s.s2 := by
  unfold raiseError; split <;> rfl
@[simp] theorem raiseError_s3 (code : Byte) (info : Word32) : (raiseError s code info).s3 = s.s3 := by
  unfold raiseError; split <;> rfl
@[simp] theorem raiseError_seed (code : Byte) (info : Word32) : (raiseError s code info).seed = s.seed := by
  unfold raiseError; split <;> rfl
@[simp] theorem raiseError_digest (code : Byte) (info : Word32) : (raiseError s code info).digest = s.digest := by
  unfold raiseError; split <;> rfl
@[simp] theorem raiseError_prod (code : Byte) (info : Word32) : (raiseError s code info).prod = s.prod := by
  unfold raiseError; split <;> rfl
@[simp] theorem raiseError_nprod (code : Byte) (info : Word32) : (raiseError s code info).nprod = s.nprod := by
  unfold raiseError; split <;> rfl
@[simp] theorem raiseError_preoct (code : Byte) (info : Word32) : (raiseError s code info).preoct = s.preoct := by
  unfold raiseError; split <;> rfl
@[simp] theorem raiseError_aux (code : Byte) (info : Word32) : (raiseError s code info).aux = s.aux := by
  unfold raiseError; split <;> rfl
@[simp] theorem raiseError_chain (code : Byte) (info : Word32) : (raiseError s code info).chain = s.chain := by
  unfold raiseError; split <;> rfl
@[simp] theorem raiseError_result (code : Byte) (info : Word32) : (raiseError s code info).result = s.result := by
  unfold raiseError; split <;> rfl
@[simp] theorem raiseError_target (code : Byte) (info : Word32) : (raiseError s code info).target = s.target := by
  unfold raiseError; split <;> rfl
@[simp] theorem raiseError_sb (code : Byte) (info : Word32) : (raiseError s code info).sb = s.sb := by
  unfold raiseError; split <;> rfl
@[simp] theorem raiseError_m (code : Byte) (info : Word32) : (raiseError s code info).m = s.m := by
  unfold raiseError; split <;> rfl
@[simp] theorem raiseError_latch (code : Byte) (info : Word32) : (raiseError s code info).latch = s.latch := by
  unfold raiseError; split <;> rfl
@[simp] theorem raiseError_genmat (code : Byte) (info : Word32) : (raiseError s code info).genmat = s.genmat := by
  unfold raiseError; split <;> rfl
@[simp] theorem raiseError_rdata (code : Byte) (info : Word32) : (raiseError s code info).rdata = s.rdata := by
  unfold raiseError; split <;> rfl
@[simp] theorem raiseError_inputs (code : Byte) (info : Word32) : (raiseError s code info).inputs = s.inputs := by
  unfold raiseError; split <;> rfl

/-! ## setReg64: only the register named can change -/

@[simp] theorem setReg64_busy (r : Reg64) (v : Word64) : (s.setReg64 r v).busy = s.busy := by cases r <;> rfl
@[simp] theorem setReg64_done (r : Reg64) (v : Word64) : (s.setReg64 r v).done = s.done := by cases r <;> rfl
@[simp] theorem setReg64_mvalid (r : Reg64) (v : Word64) : (s.setReg64 r v).mvalid = s.mvalid := by cases r <;> rfl
@[simp] theorem setReg64_pass (r : Reg64) (v : Word64) : (s.setReg64 r v).pass = s.pass := by cases r <;> rfl
@[simp] theorem setReg64_eovf (r : Reg64) (v : Word64) : (s.setReg64 r v).eovf = s.eovf := by cases r <;> rfl
@[simp] theorem setReg64_errcode (r : Reg64) (v : Word64) : (s.setReg64 r v).errcode = s.errcode := by cases r <;> rfl
@[simp] theorem setReg64_ie (r : Reg64) (v : Word64) : (s.setReg64 r v).ie = s.ie := by cases r <;> rfl
@[simp] theorem setReg64_rank (r : Reg64) (v : Word64) : (s.setReg64 r v).rank = s.rank := by cases r <;> rfl
@[simp] theorem setReg64_attempts (r : Reg64) (v : Word64) : (s.setReg64 r v).attempts = s.attempts := by cases r <;> rfl
@[simp] theorem setReg64_cap (r : Reg64) (v : Word64) : (s.setReg64 r v).cap = s.cap := by cases r <;> rfl
@[simp] theorem setReg64_errinfo (r : Reg64) (v : Word64) : (s.setReg64 r v).errinfo = s.errinfo := by cases r <;> rfl
@[simp] theorem setReg64_seed (r : Reg64) (v : Word64) : (s.setReg64 r v).seed = s.seed := by cases r <;> rfl
@[simp] theorem setReg64_digest (r : Reg64) (v : Word64) : (s.setReg64 r v).digest = s.digest := by cases r <;> rfl
@[simp] theorem setReg64_prod (r : Reg64) (v : Word64) : (s.setReg64 r v).prod = s.prod := by cases r <;> rfl
@[simp] theorem setReg64_nprod (r : Reg64) (v : Word64) : (s.setReg64 r v).nprod = s.nprod := by cases r <;> rfl
@[simp] theorem setReg64_preoct (r : Reg64) (v : Word64) : (s.setReg64 r v).preoct = s.preoct := by cases r <;> rfl
@[simp] theorem setReg64_aux (r : Reg64) (v : Word64) : (s.setReg64 r v).aux = s.aux := by cases r <;> rfl
@[simp] theorem setReg64_chain (r : Reg64) (v : Word64) : (s.setReg64 r v).chain = s.chain := by cases r <;> rfl
@[simp] theorem setReg64_result (r : Reg64) (v : Word64) : (s.setReg64 r v).result = s.result := by cases r <;> rfl
@[simp] theorem setReg64_target (r : Reg64) (v : Word64) : (s.setReg64 r v).target = s.target := by cases r <;> rfl
@[simp] theorem setReg64_sb (r : Reg64) (v : Word64) : (s.setReg64 r v).sb = s.sb := by cases r <;> rfl
@[simp] theorem setReg64_m (r : Reg64) (v : Word64) : (s.setReg64 r v).m = s.m := by cases r <;> rfl
@[simp] theorem setReg64_latch (r : Reg64) (v : Word64) : (s.setReg64 r v).latch = s.latch := by cases r <;> rfl
@[simp] theorem setReg64_genmat (r : Reg64) (v : Word64) : (s.setReg64 r v).genmat = s.genmat := by cases r <;> rfl
@[simp] theorem setReg64_rdata (r : Reg64) (v : Word64) : (s.setReg64 r v).rdata = s.rdata := by cases r <;> rfl
@[simp] theorem setReg64_inputs (r : Reg64) (v : Word64) : (s.setReg64 r v).inputs = s.inputs := by cases r <;> rfl
@[simp] theorem setReg64_reg64 (r r' : Reg64) (v : Word64) :
    (s.setReg64 r v).reg64 r' = if r' = r then v else s.reg64 r' := by cases r <;> cases r' <;> rfl
@[simp] theorem setReg64_buf (r : Reg64) (v : Word64) (b : Buf) : (s.setReg64 r v).buf b = s.buf b := by
  cases r <;> cases b <;> rfl

/-! ## setBuf: only the buffer named can change -/

@[simp] theorem setBuf_busy (b : Buf) (v : Bytes32) : (s.setBuf b v).busy = s.busy := by cases b <;> rfl
@[simp] theorem setBuf_done (b : Buf) (v : Bytes32) : (s.setBuf b v).done = s.done := by cases b <;> rfl
@[simp] theorem setBuf_mvalid (b : Buf) (v : Bytes32) : (s.setBuf b v).mvalid = s.mvalid := by cases b <;> rfl
@[simp] theorem setBuf_pass (b : Buf) (v : Bytes32) : (s.setBuf b v).pass = s.pass := by cases b <;> rfl
@[simp] theorem setBuf_eovf (b : Buf) (v : Bytes32) : (s.setBuf b v).eovf = s.eovf := by cases b <;> rfl
@[simp] theorem setBuf_errcode (b : Buf) (v : Bytes32) : (s.setBuf b v).errcode = s.errcode := by cases b <;> rfl
@[simp] theorem setBuf_ie (b : Buf) (v : Bytes32) : (s.setBuf b v).ie = s.ie := by cases b <;> rfl
@[simp] theorem setBuf_rank (b : Buf) (v : Bytes32) : (s.setBuf b v).rank = s.rank := by cases b <;> rfl
@[simp] theorem setBuf_attempts (b : Buf) (v : Bytes32) : (s.setBuf b v).attempts = s.attempts := by cases b <;> rfl
@[simp] theorem setBuf_cap (b : Buf) (v : Bytes32) : (s.setBuf b v).cap = s.cap := by cases b <;> rfl
@[simp] theorem setBuf_errinfo (b : Buf) (v : Bytes32) : (s.setBuf b v).errinfo = s.errinfo := by cases b <;> rfl
@[simp] theorem setBuf_word (b : Buf) (v : Bytes32) : (s.setBuf b v).word = s.word := by cases b <;> rfl
@[simp] theorem setBuf_s0 (b : Buf) (v : Bytes32) : (s.setBuf b v).s0 = s.s0 := by cases b <;> rfl
@[simp] theorem setBuf_s1 (b : Buf) (v : Bytes32) : (s.setBuf b v).s1 = s.s1 := by cases b <;> rfl
@[simp] theorem setBuf_s2 (b : Buf) (v : Bytes32) : (s.setBuf b v).s2 = s.s2 := by cases b <;> rfl
@[simp] theorem setBuf_s3 (b : Buf) (v : Bytes32) : (s.setBuf b v).s3 = s.s3 := by cases b <;> rfl
@[simp] theorem setBuf_sb (b : Buf) (v : Bytes32) : (s.setBuf b v).sb = s.sb := by cases b <;> rfl
@[simp] theorem setBuf_m (b : Buf) (v : Bytes32) : (s.setBuf b v).m = s.m := by cases b <;> rfl
@[simp] theorem setBuf_latch (b : Buf) (v : Bytes32) : (s.setBuf b v).latch = s.latch := by cases b <;> rfl
@[simp] theorem setBuf_genmat (b : Buf) (v : Bytes32) : (s.setBuf b v).genmat = s.genmat := by cases b <;> rfl
@[simp] theorem setBuf_rdata (b : Buf) (v : Bytes32) : (s.setBuf b v).rdata = s.rdata := by cases b <;> rfl
@[simp] theorem setBuf_inputs (b : Buf) (v : Bytes32) : (s.setBuf b v).inputs = s.inputs := by cases b <;> rfl

@[simp] theorem setBuf_buf (b b' : Buf) (v : Bytes32) :
    (s.setBuf b v).buf b' = if b' = b then v else s.buf b' := by cases b <;> cases b' <;> rfl
@[simp] theorem setBuf_reg64 (b : Buf) (v : Bytes32) (r : Reg64) : (s.setBuf b v).reg64 r = s.reg64 r := by
  cases b <;> cases r <;> rfl
@[simp] theorem complete_setProducts (p n : Bytes32) : (complete s).setProducts p n = complete (s.setProducts p n) := (rfl)
@[simp] theorem complete_setOct (p q : Bytes32) : (complete s).setOct p q = complete (s.setOct p q) := (rfl)
@[simp] theorem complete_setSb (t : Table) : (complete s).setSb t = complete (s.setSb t) := (rfl)
@[simp] theorem complete_setAux (b : Bytes32) : (complete s).setAux b = complete (s.setAux b) := (rfl)
@[simp] theorem complete_setChain (b : Bytes32) : (complete s).setChain b = complete (s.setChain b) := (rfl)
@[simp] theorem complete_setResult (b : Bytes32) : (complete s).setResult b = complete (s.setResult b) := (rfl)
@[simp] theorem complete_setPass (b : Bool) : (complete s).setPass b = complete (s.setPass b) := (rfl)
@[simp] theorem complete_complete : complete (complete s) = complete s := (rfl)
@[simp] theorem complete_bufs : (complete s).bufs = s.bufs := (rfl)
@[simp] theorem complete_gen : (complete s).gen = s.gen := (rfl)
@[simp] theorem setGen_gen (g : Gen) : (s.setGen g).gen = g := (rfl)

/-! ## The reset values (70_reset_and_hazards.md R240) -/

@[simp] theorem reset_busy : State.reset.busy = false := (rfl)
@[simp] theorem reset_done : State.reset.done = false := (rfl)
@[simp] theorem reset_mvalid : State.reset.mvalid = false := (rfl)
@[simp] theorem reset_pass : State.reset.pass = false := (rfl)
@[simp] theorem reset_eovf : State.reset.eovf = false := (rfl)
@[simp] theorem reset_errcode : State.reset.errcode = 0#8 := (rfl)
@[simp] theorem reset_ie : State.reset.ie = false := (rfl)
@[simp] theorem reset_rank : State.reset.rank = 0#7 := (rfl)
@[simp] theorem reset_attempts : State.reset.attempts = 0#32 := (rfl)
@[simp] theorem reset_cap : State.reset.cap = 0#32 := (rfl)
@[simp] theorem reset_errinfo : State.reset.errinfo = 0#32 := (rfl)
@[simp] theorem reset_word : State.reset.word = 0#64 := (rfl)
@[simp] theorem reset_s0 : State.reset.s0 = 0#64 := (rfl)
@[simp] theorem reset_s1 : State.reset.s1 = 0#64 := (rfl)
@[simp] theorem reset_s2 : State.reset.s2 = 0#64 := (rfl)
@[simp] theorem reset_s3 : State.reset.s3 = 0#64 := (rfl)
@[simp] theorem reset_seed : State.reset.seed = Vector.replicate 32 0#8 := (rfl)
@[simp] theorem reset_digest : State.reset.digest = Vector.replicate 32 0#8 := (rfl)
@[simp] theorem reset_prod : State.reset.prod = Vector.replicate 32 0#8 := (rfl)
@[simp] theorem reset_nprod : State.reset.nprod = Vector.replicate 32 0#8 := (rfl)
@[simp] theorem reset_preoct : State.reset.preoct = Vector.replicate 32 0#8 := (rfl)
@[simp] theorem reset_aux : State.reset.aux = Vector.replicate 32 0#8 := (rfl)
@[simp] theorem reset_chain : State.reset.chain = Vector.replicate 32 0#8 := (rfl)
@[simp] theorem reset_result : State.reset.result = Vector.replicate 32 0#8 := (rfl)
@[simp] theorem reset_target : State.reset.target = Vector.replicate 32 0#8 := (rfl)
@[simp] theorem reset_sb : State.reset.sb = Vector.replicate 256 0#8 := (rfl)
@[simp] theorem reset_m : State.reset.m = Vector.replicate 64 (Vector.replicate 64 0#4) := (rfl)
@[simp] theorem reset_latch : State.reset.latch = none := (rfl)
@[simp] theorem reset_genmat : State.reset.genmat = none := (rfl)
@[simp] theorem reset_rdata : State.reset.rdata = none := (rfl)
@[simp] theorem reset_inputs : State.reset.inputs = [] := (rfl)

end Sys2Proof.Machine
end

