-- ==== Sys2Proof/Laws/Commands.lean ====
section
/-! SUPPORT. The frames of the commands' own updates: one lemma per field for what GENMAT commits, and for each pipeline
stage the fields it writes. -/

namespace Sys2Proof.Machine

variable (k : ProtocolK) (s : State)

/-! ## What GENMAT commits -/

@[simp] theorem genmatCommit_busy : (genmatCommit s).busy = s.busy := by simp [genmatCommit]
@[simp] theorem genmatCommit_done : (genmatCommit s).done = s.done := by simp [genmatCommit]
@[simp] theorem genmatCommit_mvalid : (genmatCommit s).mvalid = mvalidFlag (rankOf (genmatCandidate s).1) := by simp [genmatCommit]
@[simp] theorem genmatCommit_pass : (genmatCommit s).pass = s.pass := by simp [genmatCommit]
@[simp] theorem genmatCommit_eovf : (genmatCommit s).eovf = s.eovf := by simp [genmatCommit]
@[simp] theorem genmatCommit_errcode : (genmatCommit s).errcode = s.errcode := by simp [genmatCommit]
@[simp] theorem genmatCommit_ie : (genmatCommit s).ie = s.ie := by simp [genmatCommit]
@[simp] theorem genmatCommit_rank : (genmatCommit s).rank = BitVec.ofNat 7 (rankOf (genmatCandidate s).1) := by simp [genmatCommit]
@[simp] theorem genmatCommit_attempts : (genmatCommit s).attempts = genmatCount s := by simp [genmatCommit]
@[simp] theorem genmatCommit_cap : (genmatCommit s).cap = s.cap := by simp [genmatCommit]
@[simp] theorem genmatCommit_errinfo : (genmatCommit s).errinfo = s.errinfo := by simp [genmatCommit]
@[simp] theorem genmatCommit_word : (genmatCommit s).word = s.word := by simp [genmatCommit]
@[simp] theorem genmatCommit_s0 : (genmatCommit s).s0 = (genmatCandidate s).2.s0 := by simp [genmatCommit]
@[simp] theorem genmatCommit_s1 : (genmatCommit s).s1 = (genmatCandidate s).2.s1 := by simp [genmatCommit]
@[simp] theorem genmatCommit_s2 : (genmatCommit s).s2 = (genmatCandidate s).2.s2 := by simp [genmatCommit]
@[simp] theorem genmatCommit_s3 : (genmatCommit s).s3 = (genmatCandidate s).2.s3 := by simp [genmatCommit]
@[simp] theorem genmatCommit_seed : (genmatCommit s).seed = s.seed := by simp [genmatCommit]
@[simp] theorem genmatCommit_digest : (genmatCommit s).digest = s.digest := by simp [genmatCommit]
@[simp] theorem genmatCommit_prod : (genmatCommit s).prod = s.prod := by simp [genmatCommit]
@[simp] theorem genmatCommit_nprod : (genmatCommit s).nprod = s.nprod := by simp [genmatCommit]
@[simp] theorem genmatCommit_preoct : (genmatCommit s).preoct = s.preoct := by simp [genmatCommit]
@[simp] theorem genmatCommit_aux : (genmatCommit s).aux = s.aux := by simp [genmatCommit]
@[simp] theorem genmatCommit_chain : (genmatCommit s).chain = s.chain := by simp [genmatCommit]
@[simp] theorem genmatCommit_result : (genmatCommit s).result = s.result := by simp [genmatCommit]
@[simp] theorem genmatCommit_target : (genmatCommit s).target = s.target := by simp [genmatCommit]
@[simp] theorem genmatCommit_sb : (genmatCommit s).sb = s.sb := by simp [genmatCommit]
@[simp] theorem genmatCommit_m : (genmatCommit s).m = (genmatCandidate s).1 := by simp [genmatCommit]
@[simp] theorem genmatCommit_latch : (genmatCommit s).latch = s.latch := by simp [genmatCommit]
@[simp] theorem genmatCommit_genmat : (genmatCommit s).genmat = s.genmat := by simp [genmatCommit]
@[simp] theorem genmatCommit_rdata : (genmatCommit s).rdata = s.rdata := by simp [genmatCommit]
@[simp] theorem genmatCommit_inputs : (genmatCommit s).inputs = s.inputs := by simp [genmatCommit]

/-! ## The pipeline stages: completion commutes with each, since they read nothing of a command's life cycle -/

theorem mvmulStage_complete : mvmulStage k (complete s) = complete (mvmulStage k s) := by simp [mvmulStage]
theorem octStage_complete : octStage k (complete s) = complete (octStage k s) := by simp [octStage]
theorem sboxgenStage_complete : sboxgenStage k (complete s) = complete (sboxgenStage k s) := by simp [sboxgenStage]
theorem antiStage_complete : antiStage k (complete s) = complete (antiStage k s) := by simp [antiStage]
theorem chainStage_complete : chainStage k (complete s) = complete (chainStage k s) := by simp [chainStage]
theorem sboxappStage_complete : sboxappStage k (complete s) = complete (sboxappStage k s) := by simp [sboxappStage]
theorem foldStage_complete : foldStage k (complete s) = complete (foldStage k s) := by simp [foldStage]
theorem cmpStage_complete : cmpStage (complete s) = complete (cmpStage s) := by simp [cmpStage]

/-- The whole evaluation, stage after stage. -/
theorem evalStages_eq : evalStages k s =
    cmpStage (foldStage k (sboxappStage k (chainStage k (antiStage k (sboxgenStage k (octStage k (mvmulStage k s))))))) :=
  rfl

/-- The whole evaluation writes P, N, Q, SB, A, H, R and PASS, and nothing else. -/
theorem evalStages_frame : ∃ p n q t a h r b, evalStages k s =
    { s with prod := p, nprod := n, preoct := q, sb := t, aux := a, chain := h, result := r, pass := b } := by
  have h₁ : ∃ p n, mvmulStage k s = s.setProducts p n := ⟨_, _, rfl⟩
  have h₂ : ∀ u : State, ∃ p q, octStage k u = u.setOct p q := fun _ => ⟨_, _, rfl⟩
  have h₃ : ∀ u : State, ∃ t, sboxgenStage k u = u.setSb t := fun _ => ⟨_, rfl⟩
  have h₄ : ∀ u : State, ∃ a, antiStage k u = u.setAux a := fun _ => ⟨_, rfl⟩
  have h₅ : ∀ u : State, ∃ h, chainStage k u = u.setChain h := fun _ => ⟨_, rfl⟩
  have h₆ : ∀ u : State, ∃ h, sboxappStage k u = u.setChain h := fun _ => ⟨_, rfl⟩
  have h₇ : ∀ u : State, ∃ r, foldStage k u = u.setResult r := fun _ => ⟨_, rfl⟩
  have h₈ : ∀ u : State, ∃ b, cmpStage u = u.setPass b := fun _ => ⟨_, rfl⟩
  rw [evalStages_eq]
  obtain ⟨p₁, n, e₁⟩ := h₁
  obtain ⟨p, q, e₂⟩ := h₂ (s.setProducts p₁ n)
  obtain ⟨t, e₃⟩ := h₃ ((s.setProducts p₁ n).setOct p q)
  obtain ⟨a, e₄⟩ := h₄ (((s.setProducts p₁ n).setOct p q).setSb t)
  obtain ⟨c, e₅⟩ := h₅ ((((s.setProducts p₁ n).setOct p q).setSb t).setAux a)
  obtain ⟨h, e₆⟩ := h₆ (((((s.setProducts p₁ n).setOct p q).setSb t).setAux a).setChain c)
  obtain ⟨r, e₇⟩ := h₇ ((((((s.setProducts p₁ n).setOct p q).setSb t).setAux a).setChain c).setChain h)
  obtain ⟨b, e₈⟩ := h₈ (((((((s.setProducts p₁ n).setOct p q).setSb t).setAux a).setChain c).setChain h).setResult r)
  refine ⟨p, n, q, t, a, h, r, b, ?_⟩
  rw [e₁, e₂, e₃, e₄, e₅, e₆, e₇, e₈]
  simp only [State.setProducts, State.setOct, State.setSb, State.setAux, State.setChain, State.setResult, State.setPass]

end Sys2Proof.Machine
end

