-- ==== Sys2Proof/Laws/Ops.lean ====
section
/-! SUPPORT. For each shared operation, once, everything it can do. Later proofs cite these lemmas and do not unfold the
operation. -/

namespace Sys2Proof.Machine

/-! ## Errors -/

/-- The first error is recorded. -/
theorem raiseError_first {s : State} (h : s.errcode = 0#8) (code : Byte) (info : Word32) :
    raiseError s code info = { s with errcode := code, errinfo := info } := by simp [raiseError, h]

/-- A later error only sets EOVF. -/
theorem raiseError_later {s : State} (h : s.errcode ≠ 0#8) (code : Byte) (info : Word32) :
    raiseError s code info = { s with eovf := true } := by simp [raiseError, h]

/-- Everything recording an error can do. -/
theorem raiseError_cases (s : State) (code : Byte) (info : Word32) :
    (s.errcode = 0#8 ∧ raiseError s code info = { s with errcode := code, errinfo := info }) ∨
      (s.errcode ≠ 0#8 ∧ raiseError s code info = { s with eovf := true }) := by
  by_cases h : s.errcode = 0#8
  · exact .inl ⟨h, raiseError_first h code info⟩
  · exact .inr ⟨h, raiseError_later h code info⟩

/-! ## The bus -/

/-- Everything a write to CMD can do. -/
theorem writeCmd_cases (s : State) (v : Word32) :
    (∃ i, decode v = .ok i ∧ writeCmd s v = accept s i) ∨
      (∃ e, decode v = .error e ∧ writeCmd s v = { raiseError s codeIllegalCmd v with done := true }) := by
  unfold writeCmd
  cases h : decode v with
  | ok i => exact .inl ⟨i, rfl, rfl⟩
  | error e => exact .inr ⟨e, rfl, rfl⟩

/-- Everything a write to CTRL can do. -/
theorem writeCtrl_cases (s : State) (v : Word32) :
    (v.getLsbD 1 = true ∧ writeCtrl s v = resetAll s) ∨
      (v.getLsbD 1 = false ∧ writeCtrl s v = { s with ie := v.getLsbD 0 }) := by
  unfold writeCtrl
  cases h : v.getLsbD 1 <;> simp

/-- Everything a read transaction can do. -/
theorem busRead_cases (s : State) (a : Addr) :
    (locate a = none ∧
        busRead s a = { raiseError s codeBusUnmapped (accessInfo false a) with rdata := some 0#32 }) ∨
      (∃ l, locate a = some l ∧ s.busy = true ∧ openWhileBusy l = false ∧
        busRead s a = { raiseError s codeBusyAccess (accessInfo false a) with rdata := some 0#32 }) ∨
      (∃ l, locate a = some l ∧ (s.busy = true → openWhileBusy l = true) ∧
        busRead s a = { s with rdata := some (readLoc s l) }) := by
  unfold busRead
  cases h : locate a with
  | none => exact .inl ⟨rfl, rfl⟩
  | some l => cases hb : s.busy <;> cases ho : openWhileBusy l <;> simp [ho]

/-- Everything a write transaction can do. -/
theorem busWrite_cases (s : State) (a : Addr) (v : Word32) :
    (locate a = none ∧ busWrite s a v = raiseError s codeBusUnmapped (accessInfo true a)) ∨
      (∃ l, locate a = some l ∧ s.busy = true ∧ openWhileBusy l = false ∧
        busWrite s a v = raiseError s codeBusyAccess (accessInfo true a)) ∨
      (∃ l, locate a = some l ∧ (s.busy = true → openWhileBusy l = true) ∧ readOnly l = true ∧
        busWrite s a v = raiseError s codeRoWrite (accessInfo true a)) ∨
      (∃ l, locate a = some l ∧ (s.busy = true → openWhileBusy l = true) ∧ readOnly l = false ∧
        busWrite s a v = writeLoc s l v) := by
  unfold busWrite
  cases h : locate a with
  | none => exact .inl ⟨rfl, rfl⟩
  | some l => cases hb : s.busy <;> cases ho : openWhileBusy l <;> cases hr : readOnly l <;> simp [ho, hr]

/-! ## Words, bytes and halves -/

/-- A word is its four bytes. -/
@[simp] theorem wordOfBytes_byteOfWord (v : Word32) :
    wordOfBytes (byteOfWord v 0) (byteOfWord v 1) (byteOfWord v 2) (byteOfWord v 3) = v := by
  apply BitVec.eq_of_getLsbD_eq
  intro i hi
  simp only [wordOfBytes, byteOfWord, BitVec.getLsbD_append, BitVec.getLsbD_extractLsb']
  interval_cases i <;> simp

@[simp] theorem byteOfWord_zero_wordOfBytes (a b d e : Byte) : byteOfWord (wordOfBytes a b d e) 0 = a := by
  apply BitVec.eq_of_getLsbD_eq
  intro i hi
  simp only [wordOfBytes, byteOfWord, BitVec.getLsbD_append, BitVec.getLsbD_extractLsb']
  interval_cases i <;> simp

/-- A byte of a buffer after one of its words is replaced. -/
theorem putBufWord_getElem (b : Bytes32) (w : Fin 8) (v : Word32) (i : Nat) (hi : i < 32) :
    (putBufWord b w v)[i] = if i / 4 = w.val then byteOfWord v (i % 4) else b[i] := by
  unfold putBufWord
  simp

/-- A byte of the S-box after one of its words is replaced. -/
theorem putTableWord_getElem (t : Table) (w : Fin 64) (v : Word32) (i : Nat) (hi : i < 256) :
    (putTableWord t w v)[i] = if i / 4 = w.val then byteOfWord v (i % 4) else t[i] := by
  unfold putTableWord
  simp

/-- An entry of the matrix after one of its words is replaced. -/
theorem putMatrixWord_getElem (m : Matrix) (r : Fin 64) (w : Fin 16) (v : Word32) (i j : Nat) (hi : i < 64)
    (hj : j < 64) :
    (putMatrixWord m r w v)[i][j] =
      if i = r.val ∧ j / 4 = w.val then byteEntry (byteOfWord v (j % 4)) else m[i][j] := by
  unfold putMatrixWord
  by_cases h : r.val = i
  · subst h
    simp
  · simp [h, Ne.symm h]

/-- The half of a 64-bit register that was written reads back. -/
@[simp] theorem halfWord_putHalfWord_same (x : Word64) (hi : Bool) (v : Word32) :
    halfWord (putHalfWord x hi v) hi = v := by
  cases hi <;> apply BitVec.eq_of_getLsbD_eq <;> intro i h
  · simp only [halfWord, putHalfWord, BitVec.getLsbD_extractLsb', Bool.false_eq_true, if_false, h, decide_true,
      Bool.true_and, Nat.zero_add]
    exact (BitVec.getLsbD_append (x := (x.extractLsb' 32 32 : Word32)) (y := v) (i := i)).trans (by simp [h])
  · simp only [halfWord, putHalfWord, BitVec.getLsbD_extractLsb', if_true, h, decide_true, Bool.true_and]
    exact (BitVec.getLsbD_append (x := v) (y := (x.extractLsb' 0 32 : Word32)) (i := 32 + i)).trans (by simp)

/-! ## The sequencer and the step -/

@[simp] theorem exec_nop (s : State) : exec .nop s = .next (complete s) := (rfl)
@[simp] theorem exec_gseed (s : State) : exec .gseed s = .next (complete (s.setGen (seedGen s.seed))) := (rfl)
@[simp] theorem exec_gnext (s : State) :
    exec .gnext s = .next (complete (({ s with word := (xnext s.gen).1 } : State).setGen (xnext s.gen).2)) := (rfl)
@[simp] theorem exec_genmat (s : State) : exec .genmat s = .next (genmatAttempt s) := (rfl)
@[simp] theorem exec_rank (s : State) :
    exec .rank s = .next (complete (s.setRank (rankOf s.m))) := (rfl)
@[simp] theorem exec_mvmul (s : State) : exec .mvmul s = .next (complete (mvmulStage Config.protocolK s)) := (rfl)
@[simp] theorem exec_oct (s : State) : exec .oct s = .next (complete (octStage Config.protocolK s)) := (rfl)
@[simp] theorem exec_sboxgen (s : State) : exec .sboxgen s = .next (complete (sboxgenStage Config.protocolK s)) := (rfl)
@[simp] theorem exec_anti (s : State) : exec .anti s = .next (complete (antiStage Config.protocolK s)) := (rfl)
@[simp] theorem exec_chain (s : State) : exec .chain s = .next (complete (chainStage Config.protocolK s)) := (rfl)
@[simp] theorem exec_sboxapp (s : State) : exec .sboxapp s = .next (complete (sboxappStage Config.protocolK s)) := (rfl)
@[simp] theorem exec_fold (s : State) : exec .fold s = .next (complete (foldStage Config.protocolK s)) := (rfl)
@[simp] theorem exec_cmp (s : State) : exec .cmp s = .next (complete (cmpStage s)) := (rfl)
@[simp] theorem exec_eval (s : State) : exec .eval s = .next (complete (evalStages Config.protocolK s)) := (rfl)
@[simp] theorem exec_ack (s : State) : exec .ack s = .next (retire (clearError s)) := (rfl)

/-- Everything one attempt of a GENMAT can do: complete at rank 64, complete at the cap, or go on. -/
theorem genmatAttempt_cases (s : State) :
    (rankOf (genmatCandidate s).1 = 64 ∧ genmatAttempt s = complete (genmatCommit s)) ∨
      (rankOf (genmatCandidate s).1 ≠ 64 ∧ s.cap ≠ 0#32 ∧ s.cap ≤ genmatCount s ∧
        genmatAttempt s = complete (raiseError (genmatCommit s) codeGenmatCap (genmatCount s))) ∨
      (rankOf (genmatCandidate s).1 ≠ 64 ∧ (s.cap ≠ 0#32 → genmatCount s < s.cap) ∧
        genmatAttempt s = { s with genmat := some ⟨(genmatCandidate s).2, genmatCount s⟩ }) := by
  unfold genmatAttempt
  split_ifs with h64 hc
  · exact .inl ⟨h64, rfl⟩
  · exact .inr (.inl ⟨h64, hc.1, hc.2, rfl⟩)
  · exact .inr (.inr ⟨h64, fun h0 => BitVec.not_le.mp fun hle => hc ⟨h0, hle⟩, rfl⟩)

/-- Everything a turn of the sequencer can do. -/
theorem sequencerTurn_cases (s : State) :
    (s.busy = false ∧ sequencerTurn s = .next s) ∨
      (∃ i, s.busy = true ∧ s.latch = some i ∧ sequencerTurn s = exec i s) ∨
      (s.busy = true ∧ s.latch = none ∧ sequencerTurn s = .fault .latchEmpty) := by
  unfold sequencerTurn
  cases hb : s.busy with
  | false => exact .inl ⟨rfl, rfl⟩
  | true =>
    cases hl : s.latch with
    | none => exact .inr (.inr ⟨rfl, rfl, rfl⟩)
    | some i => exact .inr (.inl ⟨i, rfl, rfl, rfl⟩)

/-- Everything a step can do. -/
theorem step_cases (s : State) :
    (s.inputs = [] ∧ step s = .next (nextSlot s [])) ∨
      (∃ slot rest, s.inputs = slot :: rest ∧ slot.tick = false ∧
        step s = .next (hostEvent (nextSlot s rest) slot.event)) ∨
      (∃ slot rest, s.inputs = slot :: rest ∧ slot.tick = true ∧
        step s = sequencerTurn (hostEvent (nextSlot s rest) slot.event)) := by
  unfold step
  cases hi : s.inputs with
  | nil => exact .inl ⟨rfl, rfl⟩
  | cons slot rest =>
    cases ht : slot.tick with
    | false => exact .inr (.inl ⟨slot, rest, rfl, ht, by simp [slotStep, ht]⟩)
    | true => exact .inr (.inr ⟨slot, rest, rfl, ht, by simp [slotStep, ht]⟩)

end Sys2Proof.Machine
end

