-- ==== Sys2Proof/Laws/PerInstr.lean ====
section
/-! SUPPORT. Statements made per instruction, one lemma per constructor of Instr. -/

namespace Sys2Proof.Laws.TableRow

/-- The command word of an instruction, numbered as the opcode table numbers its bits, is below 15 and decodes to the
instruction (30_encoding.md R93). -/
def Statement (i : Instr) : Prop := (encode i).toNat < 15 ∧ decodeTableWord 32 (encode i).toNat = some i

theorem nop : Statement .nop := by unfold Statement; decide
theorem gseed : Statement .gseed := by unfold Statement; decide
theorem gnext : Statement .gnext := by unfold Statement; decide
theorem genmat : Statement .genmat := by unfold Statement; decide
theorem rank : Statement .rank := by unfold Statement; decide
theorem mvmul : Statement .mvmul := by unfold Statement; decide
theorem oct : Statement .oct := by unfold Statement; decide
theorem sboxgen : Statement .sboxgen := by unfold Statement; decide
theorem anti : Statement .anti := by unfold Statement; decide
theorem chain : Statement .chain := by unfold Statement; decide
theorem sboxapp : Statement .sboxapp := by unfold Statement; decide
theorem fold : Statement .fold := by unfold Statement; decide
theorem cmp : Statement .cmp := by unfold Statement; decide
theorem eval : Statement .eval := by unfold Statement; decide
theorem ack : Statement .ack := by unfold Statement; decide

end Sys2Proof.Laws.TableRow
end

