-- ==== Sys2Proof/Laws/Rank.lean ====
section
/-! SUPPORT. What one pass of the Rank Computer can do, and the rank of the zero matrix. -/

namespace Sys2Proof.Machine

/-- What a search for a pivot answers: none, if every unselected row is within EPS of 0 in the column; else a row that
is unselected and above EPS there. -/
theorem findPivot_cases (x : RankWork) (i : Fin 64) :
    (findPivot x i = none ∧ ∀ r : Fin 64, x.sel[r] = false → Binary64.absAboveEps x.w[r][i] = false) ∨
      (∃ j, findPivot x i = some j ∧ x.sel[j] = false ∧ Binary64.absAboveEps x.w[j][i] = true) := by
  cases h : findPivot x i with
  | none =>
    refine .inl ⟨rfl, fun r hr => ?_⟩
    have := List.find?_eq_none.mp h r (List.mem_finRange r)
    simpa [hr] using this
  | some j =>
    refine .inr ⟨j, rfl, ?_⟩
    have := List.find?_some h
    simpa using this

/-- Everything one pass over a column can do. -/
theorem rankColumn_cases (x : RankWork) (i : Fin 64) :
    (findPivot x i = none ∧ rankColumn x i = x) ∨
      (∃ j, findPivot x i = some j ∧ (rankColumn x i).rk = x.rk + 1 ∧ (rankColumn x i).sel = x.sel.set j true) := by
  unfold rankColumn
  cases h : findPivot x i with
  | none => exact .inl ⟨rfl, rfl⟩
  | some j => exact .inr ⟨j, rfl, rfl, rfl⟩

/-- A state with no pivot in any column is left as it is. -/
theorem foldl_rankColumn_fixed {x : RankWork} (h : ∀ i, findPivot x i = none) (l : List (Fin 64)) :
    l.foldl rankColumn x = x := by
  induction l with
  | nil => rfl
  | cons i l ih =>
    rw [List.foldl_cons, show rankColumn x i = x by simp only [rankColumn, h i], ih]

/-- A matrix with no pivot in any column has rank 0. -/
theorem rankOf_eq_zero {m : Matrix} (h : ∀ i, findPivot (rankStart m) i = none) : rankOf m = 0 := by
  unfold rankOf
  rw [foldl_rankColumn_fixed h]
  rfl

/-- An entry of the start state is the entry of the matrix as a binary64 (41_matrix.md R124). -/
theorem rankStart_w (m : Matrix) (r i : Fin 64) : (rankStart m).w[r][i] = Binary64.ofNat m[r][i].toNat := by
  simp [rankStart]

/-- The zero matrix has no pivot in any column, so its rank is 0 (41_matrix.md R127). -/
theorem rankOf_zero (m : Matrix) (h : ∀ r i : Fin 64, m[r][i] = 0#4) : rankOf m = 0 := by
  refine rankOf_eq_zero fun i => ?_
  rcases findPivot_cases (rankStart m) i with hn | ⟨j, -, -, hj⟩
  · exact hn.1
  · rw [rankStart_w, h] at hj
    exact absurd hj (by decide)

end Sys2Proof.Machine
end

