-- ==== Sys2Proof/Safety.lean ====
section
/-! DEFINITION. The terms claims are made in: the invariant every step keeps, the addresses of the window as the spec's
tables give them, what recording an error means, runs of sequencer turns, and the rounding of binary64. Nothing here
is used by the machine. -/

namespace Sys2Proof.Machine

/-! ## The invariant -/

/-- What holds of every state a run reaches.
* `latch_holds`: LATCH is meaningful only while BUSY = 1 (10_state.md R41).
* `busy_not_done`: acceptance clears DONE and completion clears BUSY (R43, R44).
* `progress_of_genmat`: only a GENMAT in flight has progress, the model's own field (log entry 5); it has made an
  attempt, and fewer than CAP (41_matrix.md R121).
* `code_listed`: the codes 0x06-0xFF are never recorded (60_exceptions.md R210).
* `no_code_no_info`: with no error recorded ERRINFO reads 0 and EOVF is 0 (10_state.md R34, R37).
* `rank_in_range`: RANK is in 0..64 (R36).
* `mvalid_means_rank`: MVALID = 1 says that the rank of M's current contents is 64 (R34). -/
structure StateInv (s : State) : Prop where
  latch_holds : s.busy = s.latch.isSome
  busy_not_done : s.busy = true → s.done = false
  progress_of_genmat : ∀ p, s.genmat = some p → s.latch = some .genmat ∧ p.n ≠ 0#32 ∧ (s.cap ≠ 0#32 → p.n < s.cap)
  code_listed : s.errcode ≤ 0x05#8
  no_code_no_info : s.errcode = 0#8 → s.errinfo = 0#32 ∧ s.eovf = false
  rank_in_range : s.rank ≤ 64#7
  mvalid_means_rank : s.mvalid = true → s.rank = 64#7 ∧ rankOf s.m = 64

/-- The machine goes on from `s`: its step is neither a fault nor a refusal. -/
def GoesOn (s : State) : Prop := ∃ t, step s = .next t

/-! ## The window as the spec's tables give it -/

/-- An aligned address of a mapped row (20_memory.md R61, R64). -/
abbrev mappedWord (a : Addr) : Prop :=
  a.toNat % 4 = 0 ∧
    (a.toNat < 0x0028 ∨ (0x0040 ≤ a.toNat ∧ a.toNat < 0x0060) ∨ (0x0100 ≤ a.toNat ∧ a.toNat < 0x0220) ∨
      (0x0400 ≤ a.toNat ∧ a.toNat < 0x0500) ∨ (0x1000 ≤ a.toNat ∧ a.toNat < 0x2000))

/-- The addresses of ID, STATUS, CTRL and ERRINFO (60_exceptions.md R212). -/
abbrev openAddress (a : Addr) : Prop := a = 0x0000#16 ∨ a = 0x0008#16 ∨ a = 0x000C#16 ∨ a = 0x001C#16

/-- The addresses of ID, STATUS, RANK, ATTEMPTS and ERRINFO (10_state.md R22). -/
abbrev readOnlyAddress (a : Addr) : Prop :=
  a = 0x0000#16 ∨ a = 0x0008#16 ∨ a = 0x0010#16 ∨ a = 0x0014#16 ∨ a = 0x001C#16

/-- The low address of a 64-bit register (10_state.md R22). -/
def reg64Base : Reg64 → Nat
  | .word => 0x0020
  | .s0 => 0x0040
  | .s1 => 0x0048
  | .s2 => 0x0050
  | .s3 => 0x0058

/-- The base address of a buffer (10_state.md R22). -/
def bufBase : Buf → Nat
  | .seed => 0x0100
  | .digest => 0x0120
  | .prod => 0x0140
  | .nprod => 0x0160
  | .preoct => 0x0180
  | .aux => 0x01A0
  | .chain => 0x01C0
  | .result => 0x01E0
  | .target => 0x0200

/-- The address of a location (10_state.md R22; 20_memory.md R63, R66). -/
def addrOf : Loc → Addr
  | .id => 0x0000#16
  | .cmd => 0x0004#16
  | .status => 0x0008#16
  | .ctrl => 0x000C#16
  | .rank => 0x0010#16
  | .attempts => 0x0014#16
  | .cap => 0x0018#16
  | .errinfo => 0x001C#16
  | .reg64 r hi => BitVec.ofNat 16 (reg64Base r + if hi then 4 else 0)
  | .buf b w => BitVec.ofNat 16 (bufBase b + 4 * w.val)
  | .sb w => BitVec.ofNat 16 (0x0400 + 4 * w.val)
  | .matrix r w => BitVec.ofNat 16 (0x1000 + 64 * r.val + 4 * w.val)

/-- A location that stores all of a word written to it, with no side effect: every RW row of R22 but CTRL and M. -/
def plainStorage : Loc → Bool
  | .cap => true
  | .reg64 _ _ => true
  | .buf _ _ => true
  | .sb _ => true
  | _ => false

/-! ## Errors -/

/-- From `s` to `t` the error `code` with `info` was recorded and nothing else changed (60_exceptions.md R214). -/
def ErrorRecorded (s t : State) (code : Byte) (info : Word32) : Prop :=
  (s.errcode = 0#8 → t = { s with errcode := code, errinfo := info }) ∧
    (s.errcode ≠ 0#8 → t = { s with eovf := true })

/-! ## Runs -/

/-- `n` steps, stopping at the first fault or refusal: the host's `Host.Core.run` of this machine (`core_run_eq`,
Laws/Runs.lean). -/
def runSteps : Nat → State → Host.Outcome State Fault Refusal
  | 0, s => .next s
  | n + 1, s =>
    match step s with
    | .next t => runSteps n t
    | .fault r => .fault r
    | .refused r => .refused r

/-- A slot with no transaction in which the sequencer has its turn. -/
def turnSlot : Slot := ⟨.idle, true⟩

/-- A host event that only looks: no transaction, or a read of ID, STATUS, CTRL or ERRINFO. -/
def quietEvent : HostEvent → Bool
  | .idle => true
  | .read a => a == 0x0000#16 || a == 0x0008#16 || a == 0x000C#16 || a == 0x001C#16
  | .write _ _ => false
  | .reset => false

/-- The generator state a seed has after `k` candidates (41_matrix.md R121, R122). -/
def genAfter (seed : Bytes32) (k : Nat) : Gen := (fun g => (fill g).2)^[k] (seedGen seed)

/-- The candidate of attempt `k + 1` of a GENMAT with this seed (41_matrix.md R121, R122). -/
def candidate (seed : Bytes32) (k : Nat) : Matrix := (fill (genAfter seed k)).1

/-! ## Rounding -/

/-- The rational value of a finite binary64; an infinity or a NaN has none (0 stands there). -/
def Binary64.val : Binary64 → ℚ
  | .nan => 0
  | .inf _ => 0
  | .fin neg m e => (if neg then -1 else 1) * (m : ℚ) * (2 : ℚ) ^ e

/-- `r` is the exact value `x` rounded once to binary64, to nearest, ties to even (00_scope.md R13): infinity from
half a unit above the greatest finite value on, else a canonical value none is nearer than, and an even one if another
is as near; the sign of a nonzero `x` is kept. -/
def IsRounded (x : ℚ) : Binary64 → Prop
  | .nan => False
  | .inf neg => ((2 : ℚ) ^ 53 - 1 / 2) * (2 : ℚ) ^ (971 : ℤ) ≤ |x| ∧ (neg = true ↔ x < 0)
  | .fin neg m e =>
    |x| < ((2 : ℚ) ^ 53 - 1 / 2) * (2 : ℚ) ^ (971 : ℤ) ∧ (x ≠ 0 → (neg = true ↔ x < 0)) ∧
      Binary64.canonical (.fin neg m e) ∧
      ∀ n' m' e', Binary64.canonical (.fin n' m' e') →
        |x - Binary64.val (.fin neg m e)| ≤ |x - Binary64.val (.fin n' m' e')| ∧
          (|x - Binary64.val (.fin neg m e)| = |x - Binary64.val (.fin n' m' e')| →
            Binary64.val (.fin n' m' e') ≠ Binary64.val (.fin neg m e) → m % 2 = 0)

end Sys2Proof.Machine
end

