-- ==== Sys2Proof/Laws/Runs.lean ====
section
/-! SUPPORT. Runs: what `runSteps` does at each length, and that it is the host's run of this machine. -/

namespace Sys2Proof.Machine

/-- A run of no step. -/
@[simp] theorem runSteps_zero (s : State) : runSteps 0 s = .next s := rfl

/-- A run goes on from the state its first step answers. -/
theorem runSteps_succ {s t : State} (n : Nat) (h : step s = .next t) : runSteps (n + 1) s = runSteps n t := by
  simp only [runSteps, h]

/-- A run of `m + n` steps is one of `m`, and one of `n` from where it ends. -/
theorem runSteps_add {m : Nat} (n : Nat) {s t : State} (h : runSteps m s = .next t) :
    runSteps (m + n) s = runSteps n t := by
  induction m generalizing s with
  | zero =>
    rw [Nat.zero_add]
    rw [runSteps_zero, Host.Outcome.next.injEq] at h
    rw [h]
  | succ m ih =>
    rw [Nat.succ_add]
    cases hs : step s with
    | next u =>
      rw [runSteps_succ _ hs] at h ⊢
      exact ih h
    | fault r => simp [runSteps, hs] at h
    | refused r => simp [runSteps, hs] at h

/-- The host's run of this machine is `runSteps`. -/
theorem core_run_eq (n : Nat) (s : State) : Host.Core.run Sys2Proof.core n s = runSteps n s := by
  induction n generalizing s with
  | zero => exact Host.Core.run.eq_1 Sys2Proof.core s
  | succ n ih =>
    cases h : step s with
    | next t =>
      have h' : Sys2Proof.core.step s = .next t := h
      rw [runSteps_succ n h]
      refine (Host.Core.run.eq_2 Sys2Proof.core s n).trans ?_
      simp only [h']
      exact ih t
    | fault r =>
      have h' : Sys2Proof.core.step s = .fault r := h
      refine (Host.Core.run.eq_2 Sys2Proof.core s n).trans ?_
      simp only [h', runSteps, h]
      rfl
    | refused r =>
      have h' : Sys2Proof.core.step s = .refused r := h
      refine (Host.Core.run.eq_2 Sys2Proof.core s n).trans ?_
      simp only [h', runSteps, h]
      rfl

end Sys2Proof.Machine
end

