-- ==== Sys2Proof/Certificates/Slice0/Obligations.lean ====
section
/-! DEFINITION. The statements for the provers. Each docstring says which rule of spec/ it formalises, or that it is
about a choice of the model and which log entry says so. `t = { s with f := t.f, … }` says that nothing but the named
fields changed. -/

open Sys2Proof Sys2Proof.Machine

/-! ## The command word -/

/-- The fifteen command words, written out from the opcode map, decode to their commands, and every other opcode with
RSV = 0 is reserved (30_encoding.md R93). -/
def Obligations.OpcodeMapIsTheTable : Prop :=
  decode 0x00000000#32 = .ok .nop ∧ decode 0x00000001#32 = .ok .gseed ∧ decode 0x00000002#32 = .ok .gnext ∧
    decode 0x00000003#32 = .ok .genmat ∧ decode 0x00000004#32 = .ok .rank ∧ decode 0x00000005#32 = .ok .mvmul ∧
    decode 0x00000006#32 = .ok .oct ∧ decode 0x00000007#32 = .ok .sboxgen ∧ decode 0x00000008#32 = .ok .anti ∧
    decode 0x00000009#32 = .ok .chain ∧ decode 0x0000000A#32 = .ok .sboxapp ∧ decode 0x0000000B#32 = .ok .fold ∧
    decode 0x0000000C#32 = .ok .cmp ∧ decode 0x0000000D#32 = .ok .eval ∧ decode 0x0000000E#32 = .ok .ack ∧
    ∀ w : Word32, 0x0F ≤ w.toNat → w.toNat ≤ 0xFF → decode w = .error .reservedOpcode

/-- A word decodes to a command iff RSV = 0 and OPC ≤ 0x0E, and then OPC is that command's opcode; so every word has
exactly one meaning (30_encoding.md R92, R94). -/
def Obligations.WordIsLegalExactlyWhen : Prop :=
  ∀ w : Word32,
    ((∃ i, decode w = .ok i) ↔ w.extractLsb' 8 24 = 0#24 ∧ w.extractLsb' 0 8 ≤ 0x0E#8) ∧
      ∀ i, decode w = .ok i → w.extractLsb' 0 8 = opcodeOf i

/-- Decode and encode agree, in both directions: a word decodes to an instruction iff it is that instruction's
encoding (30_encoding.md R90, R92, R93). -/
def Obligations.DecodeAndEncodeAgree : Prop :=
  ∀ (i : Instr) (w : Word32), decode w = .ok i ↔ w = encode i

/-- Every instruction's row statement holds: its word is below 15 and the table's numbering of its bits decodes to it
(30_encoding.md R93). -/
def Obligations.EveryTableRowDecodes : Prop := ∀ i : Instr, Sys2Proof.Laws.TableRow.Statement i

/-! ## The register window -/

/-- The address map is exact: an address reaches a location iff it is the address the spec's tables give that location
(10_state.md R22; 20_memory.md R61, R63, R66). -/
def Obligations.AddressMapIsExact : Prop := ∀ (a : Addr) (l : Loc), locate a = some l ↔ a = addrOf l

/-- An address reaches no state iff it is misaligned or outside every mapped row (20_memory.md R61, R64). -/
def Obligations.UnmappedExactlyOutsideTheRows : Prop := ∀ a : Addr, locate a = none ↔ ¬ mappedWord a

/-- The access checks in order (60_exceptions.md R212): unmapped or misaligned, then busy, then read-only, else the
transaction proceeds. A refused read returns 0, a refused write has no effect, and each records its error with
`W` and the address. -/
def Obligations.AccessChecksInOrder : Prop :=
  ∀ (s : State) (a : Addr) (v : Word32),
    (¬ mappedWord a →
      (∃ u, ErrorRecorded s u 0x03#8 (0#15 ++ 0#1 ++ a) ∧ busRead s a = { u with rdata := some 0#32 }) ∧
        ErrorRecorded s (busWrite s a v) 0x03#8 (0#15 ++ 1#1 ++ a)) ∧
    (mappedWord a → s.busy = true → ¬ openAddress a →
      (∃ u, ErrorRecorded s u 0x02#8 (0#15 ++ 0#1 ++ a) ∧ busRead s a = { u with rdata := some 0#32 }) ∧
        ErrorRecorded s (busWrite s a v) 0x02#8 (0#15 ++ 1#1 ++ a)) ∧
    (mappedWord a → (s.busy = true → openAddress a) →
      (∃ l, a = addrOf l ∧ busRead s a = { s with rdata := some (readLoc s l) } ∧
          (¬ readOnlyAddress a → busWrite s a v = writeLoc s l v)) ∧
        (readOnlyAddress a → ErrorRecorded s (busWrite s a v) 0x04#8 (0#15 ++ 1#1 ++ a)))

/-- A read has no side effect but an error a refused read records: nothing changes but the returned word, ERRCODE,
ERRINFO and EOVF, and an accepted read changes nothing but the returned word (20_memory.md R68). -/
def Obligations.ReadsHaveNoSideEffects : Prop :=
  ∀ (s : State) (a : Addr),
    (∃ x c i o, busRead s a = { s with rdata := some x, errcode := c, errinfo := i, eovf := o }) ∧
      (mappedWord a → (s.busy = true → openAddress a) → ∃ x, busRead s a = { s with rdata := some x })

/-- With BUSY = 0, a word written to a location that is plain storage reads back as written (20_memory.md R63). -/
def Obligations.WrittenWordReadsBack : Prop :=
  ∀ (s : State) (l : Loc) (v : Word32), s.busy = false → plainStorage l = true →
    (busRead (busWrite s (addrOf l) v) (addrOf l)).rdata = some v

/-- With BUSY = 0, a write to plain storage leaves every other location reading as before (20_memory.md R63). -/
def Obligations.WriteLeavesOtherWords : Prop :=
  ∀ (s : State) (l l' : Loc) (v : Word32), s.busy = false → plainStorage l = true → l' ≠ l →
    readLoc (busWrite s (addrOf l) v) l' = readLoc s l'

/-- Bus words are little-endian: byte 4m+j of a buffer or of the S-box has weight 2^(8j) in word m, and the word at a
64-bit register's base is its low half (20_memory.md R63). -/
def Obligations.BusWordsAreLittleEndian : Prop :=
  ∀ s : State,
    (∀ (b : Buf) (w : Fin 8), (readLoc s (.buf b w)).toNat
      = ∑ j : Fin 4, ((s.buf b)[4 * w.val + j.val]'(by omega)).toNat * 2 ^ (8 * j.val)) ∧
    (∀ w : Fin 64, (readLoc s (.sb w)).toNat
      = ∑ j : Fin 4, (s.sb[4 * w.val + j.val]'(by omega)).toNat * 2 ^ (8 * j.val)) ∧
    (∀ r : Reg64, (readLoc s (.reg64 r false)).toNat = (s.reg64 r).toNat % 2 ^ 32 ∧
      (readLoc s (.reg64 r true)).toNat = (s.reg64 r).toNat / 2 ^ 32)

/-- The matrix window (20_memory.md R66), with BUSY = 0: the word at 0x1000 + 64·r + 4·w reads as four entries, each a
byte with bits 7:4 zero; a write there stores bits 3:0 of each byte into its entry, clears MVALID, and changes nothing
else. -/
def Obligations.MatrixWindowStoresNibbles : Prop :=
  ∀ (s : State) (r : Fin 64) (w : Fin 16) (v : Word32), s.busy = false →
    let a : Addr := BitVec.ofNat 16 (0x1000 + 64 * r.val + 4 * w.val)
    (∃ x, (busRead s a).rdata = some x ∧
      x.toNat = ∑ j : Fin 4, (s.m[r][4 * w.val + j.val]'(by omega)).toNat * 2 ^ (8 * j.val)) ∧
    busWrite s a v = { s with m := (busWrite s a v).m, mvalid := false } ∧
    ∀ (i j : Fin 64), ((busWrite s a v).m[i][j]).toNat =
      if i = r ∧ j.val / 4 = w.val then v.toNat / 2 ^ (8 * (j.val % 4)) % 16 else (s.m[i][j]).toNat

/-- The words of the control and status registers that are not plain storage, in every state (10_state.md R34, R36-R39):
STATUS has each field in its bits and 0 in the reserved bits, ID is its constant, CMD reads 0, RANK is its 7 bits
zero-extended, ATTEMPTS and ERRINFO are their registers whole. Bus reads give these words: of ID, STATUS and ERRINFO
always, of RANK and ATTEMPTS with BUSY = 0, and of CMD 0 always, since a refused read gives 0 too (60_exceptions.md
R212). CTRL's word is in CtrlHoldsOnlyIe. -/
def Obligations.StatusWordLayout : Prop :=
  ∀ s : State,
    (readLoc s .status).toNat
        = s.busy.toNat + 2 * s.done.toNat + 4 * s.mvalid.toNat + 8 * s.pass.toNat + 16 * s.eovf.toNat
          + 256 * s.errcode.toNat ∧
      readLoc s .id = 0x31505843#32 ∧ readLoc s .cmd = 0#32 ∧ (readLoc s .rank).toNat = s.rank.toNat ∧
      readLoc s .attempts = s.attempts ∧ readLoc s .errinfo = s.errinfo ∧
      (busRead s 0x0000#16).rdata = some 0x31505843#32 ∧ (busRead s 0x0004#16).rdata = some 0#32 ∧
      (busRead s 0x0008#16).rdata = some (readLoc s .status) ∧ (busRead s 0x001C#16).rdata = some s.errinfo ∧
      (s.busy = false → (busRead s 0x0010#16).rdata = some (readLoc s .rank) ∧
        (busRead s 0x0014#16).rdata = some s.attempts)

/-- A write to CTRL, whatever BUSY is (10_state.md R35; 60_exceptions.md R212): with bit 1 clear only IE changes, to bit
0; CTRL reads as IE alone. -/
def Obligations.CtrlHoldsOnlyIe : Prop :=
  ∀ (s : State) (v : Word32),
    (readLoc s .ctrl).toNat = s.ie.toNat ∧
      (v.getLsbD 1 = false → busWrite s 0x000C#16 v = { s with ie := v.getLsbD 0 })

/-! ## Errors, reset, interrupt -/

/-- Recording (60_exceptions.md R214): the first error is recorded, a later one only sets EOVF, and the recorded error
stays through every step but one in which a reset takes place or an ACK completes: the ACK in flight, or one whose word
this step's slot writes with BUSY = 0 before the sequencer's turn (the slot is the model's form, log entry 4). -/
def Obligations.FirstErrorIsKeptUntilAckOrReset : Prop :=
  (∀ (s : State) (code : Byte) (info : Word32), s.errcode = 0#8 →
    raiseError s code info = { s with errcode := code, errinfo := info }) ∧
  (∀ (s : State) (code : Byte) (info : Word32), s.errcode ≠ 0#8 → raiseError s code info = { s with eovf := true }) ∧
  ∀ s t : State, s.errcode ≠ 0#8 → step s = .next t →
    (t.errcode = s.errcode ∧ t.errinfo = s.errinfo) ∨
      ∃ slot rest, s.inputs = slot :: rest ∧
        (slot.event = .reset ∨ (∃ v, slot.event = .write 0x000C#16 v ∧ v.getLsbD 1 = true) ∨
          (slot.tick = true ∧
            ((s.busy = true ∧ s.latch = some .ack) ∨
              (s.busy = false ∧ ∃ w, slot.event = .write 0x0004#16 w ∧ decode w = .ok .ack))))

/-- An Illegal word written to CMD (60_exceptions.md R211). With BUSY = 0 it is not accepted: ILLEGAL_CMD is recorded
with the word, DONE becomes 1, nothing else changes, and IRQ is IE. With BUSY = 1 any word is BUSY_ACCESS instead. -/
def Obligations.IllegalWordIsRejected : Prop :=
  ∀ (s : State) (w : Word32),
    (s.busy = false → (∀ i, decode w ≠ .ok i) →
      ∃ u, ErrorRecorded s u 0x01#8 w ∧ busWrite s 0x0004#16 w = { u with done := true } ∧
        (busWrite s 0x0004#16 w).irq = s.ie) ∧
    (s.busy = true → ErrorRecorded s (busWrite s 0x0004#16 w) 0x02#8 0x00010004#32)

/-- Acceptance (10_state.md R43): with BUSY = 0 a legal word written to CMD puts its command in LATCH, sets BUSY and
clears DONE; the model's hidden GENMAT progress starts empty (log entry 5); nothing else changes. -/
def Obligations.LegalWordIsAccepted : Prop :=
  ∀ (s : State) (w : Word32) (i : Instr), s.busy = false → decode w = .ok i →
    busWrite s 0x0004#16 w = { s with latch := some i, busy := true, done := false, genmat := none }

/-- Reset, by the reset input or by a write to CTRL with bit 1 set, whatever BUSY is (70_reset_and_hazards.md R240,
R241): every mapped word reads 0 but ID, nothing is in flight, IRQ is 0, and the whole block is in the reset state. That
the reset input is an event (log entry 17) and that the host's schedule survives a reset (log entry 4) are the model's
choices. -/
def Obligations.ResetClearsTheBlock : Prop :=
  ∀ (s : State) (v : Word32), v.getLsbD 1 = true →
    busWrite s 0x000C#16 v = hostEvent s .reset ∧
      hostEvent s .reset = { State.reset with inputs := s.inputs } ∧
      (hostEvent s .reset).busy = false ∧ (hostEvent s .reset).latch = none ∧ (hostEvent s .reset).irq = false ∧
      ∀ l : Loc, readLoc (hostEvent s .reset) l = if l = .id then 0x31505843#32 else 0#32

/-- IRQ is DONE AND IE (60_exceptions.md R220): it is dropped by ACK of a command in flight, by acceptance and by reset,
and masking it leaves DONE as it is. -/
def Obligations.InterruptIsDoneAndEnabled : Prop :=
  ∀ s : State, (s.irq = true ↔ s.done = true ∧ s.ie = true) ∧ (∀ i, (accept s i).irq = false) ∧
    (resetAll s).irq = false ∧ (s.done = false → ∃ t, exec .ack s = .next t ∧ t.irq = false) ∧
    (busWrite s 0x000C#16 0#32).irq = false ∧ (busWrite s 0x000C#16 0#32).done = s.done

/-! ## The step -/

/-- The step runs the decoded instruction (10_state.md R43, R44; the slot is the model's form, log entries 4 and 8): when
the next slot writes a legal word to CMD with BUSY = 0 and the sequencer has its turn in it, the step is the decoded
instruction's meaning in the accepted state. -/
def Obligations.StepRunsTheDecodedCommand : Prop :=
  ∀ (s : State) (w : Word32) (i : Instr) (rest : List Slot), s.busy = false → decode w = .ok i →
    s.inputs = ⟨.write 0x0004#16 w, true⟩ :: rest →
    step s = exec i
      { s with inputs := rest, rdata := none, latch := some i, busy := true, done := false, genmat := none }

/-- A step is one slot, its host event and then, if the slot says so, the sequencer's turn in the state the event leaves,
which runs the command in LATCH while BUSY = 1 and does nothing while BUSY = 0; with no slot left the block waits
(10_state.md R44; 20_memory.md R70; 70_reset_and_hazards.md R242; the slot is the model's form, log entries 4 and 12). The
first two clauses are a turn with no transaction. -/
def Obligations.StepIsOneSlot : Prop :=
  ∀ (s : State) (rest : List Slot),
    (∀ i, s.inputs = turnSlot :: rest → s.busy = true → s.latch = some i →
      step s = exec i { s with inputs := rest, rdata := none }) ∧
    (s.inputs = turnSlot :: rest → s.busy = false → step s = .next { s with inputs := rest, rdata := none }) ∧
    (∀ e, s.inputs = ⟨e, false⟩ :: rest → step s = .next (hostEvent { s with inputs := rest, rdata := none } e)) ∧
    (∀ e, s.inputs = ⟨e, true⟩ :: rest →
      let u := hostEvent { s with inputs := rest, rdata := none } e
      step s = sequencerTurn u ∧ (u.busy = false → step s = .next u) ∧
        ∀ i, u.busy = true → u.latch = some i → step s = exec i u) ∧
    (s.inputs = [] → step s = .next { s with rdata := none })

/-- `withFetchWord` makes the very next step run the instruction whose word it is given, and, placed at reset, that is
the first command after reset (log entry 8). -/
def Obligations.FetchWordRunsNext : Prop :=
  ∀ (s : State) (i : Instr), step (s.withFetchWord 32 (encode i).toNat)
    = exec i { s with rdata := none, latch := some i, busy := true, done := false, genmat := none }

/-- The reset state meets the invariant. -/
def Obligations.ResetMeetsTheInvariant : Prop := StateInv State.reset

/-- Every step keeps the invariant, from every state that meets it: LATCH matches BUSY, BUSY and DONE exclude each
other, only listed error codes are recorded, RANK is in range, and MVALID = 1 means that the rank of M's current
contents is 64 (10_state.md R34, R36, R37, R41; 60_exceptions.md R210). Its clause on the hidden
progress of a GENMAT is about the model's own field (log entry 5). -/
def Obligations.StepKeepsTheInvariant : Prop := ∀ s t : State, StateInv s → step s = .next t → StateInv t

/-- The machine never stops: from every state that meets the invariant the step is a next state, and its run, however
long, is one (60_exceptions.md R214, R215: a recorded error blocks nothing). -/
def Obligations.MachineNeverStops : Prop :=
  ∀ s : State, StateInv s → GoesOn s ∧ ∀ n : Nat, ∃ t, runSteps n s = .next t ∧ StateInv t

/-- Completion (10_state.md R44): every command answers a next state. Every one but GENMAT completes in it: BUSY is 0
and DONE is 1, except for ACK, which leaves DONE as it is. That LATCH is then empty is the model's choice, deduced from
R41, which calls it meaningful only while BUSY = 1 (log entry 6). A GENMAT either completes so or stays in flight with
nothing changed but its hidden progress (the model's form, log entry 5). -/
def Obligations.CommandsComplete : Prop :=
  ∀ (i : Instr) (s : State), ∃ t, exec i s = .next t ∧
    (i ≠ .genmat → t.busy = false ∧ t.latch = none ∧ t.done = if i = .ack then s.done else true) ∧
    (i = .genmat → (t.busy = false ∧ t.latch = none ∧ t.done = true) ∨ (∃ p, t = { s with genmat := some p }))

/-- Input capture (20_memory.md R72): while BUSY = 1 a host transaction that is no soft reset changes nothing but IE, the
error record and the returned word, so the state a command reads at its completion is the state at its acceptance. -/
def Obligations.BusyFreezesTheInputs : Prop :=
  ∀ (s : State) (e : HostEvent), s.busy = true → e ≠ .reset →
    (∀ v, e = .write 0x000C#16 v → v.getLsbD 1 = false) →
    ∃ b c i o x, hostEvent s e = { s with ie := b, errcode := c, errinfo := i, eovf := o, rdata := x }

/-- Polling cannot be noticed (00_scope.md R19; 20_memory.md R68): any number of reads of ID, STATUS, CTRL and ERRINFO
before the sequencer's turn leave the same state after it as no read at all. A slot is the model's form of one place in
the total order of R70 (log entry 4). -/
def Obligations.PollingIsInvisible : Prop :=
  ∀ (s : State) (es : List HostEvent) (rest : List Slot), (∀ e ∈ es, quietEvent e = true) →
    runSteps (es.length + 1)
        { s with inputs := es.map (fun e => ⟨e, false⟩) ++ turnSlot :: rest }
      = runSteps 1 { s with inputs := turnSlot :: rest }

/-- Which command writes what, for every register, flag and buffer of R247's table (70_reset_and_hazards.md R247;
10_state.md R24-R32): whatever is not among the command's writes there stays. BUSY, DONE and LATCH are of every
command's life cycle and are in CommandsComplete; the model's own read data and schedule stay too (log entries 4, 7). -/
def Obligations.OnlyItsWriterChangesIt : Prop :=
  ∀ (i : Instr) (s t : State), exec i s = .next t →
    t.seed = s.seed ∧ t.digest = s.digest ∧ t.target = s.target ∧ t.cap = s.cap ∧ t.ie = s.ie ∧
      t.rdata = s.rdata ∧ t.inputs = s.inputs ∧
      (i ∉ [.gseed, .gnext, .genmat] → t.s0 = s.s0 ∧ t.s1 = s.s1 ∧ t.s2 = s.s2 ∧ t.s3 = s.s3) ∧
      (i ≠ .gnext → t.word = s.word) ∧ (i ≠ .genmat → t.m = s.m ∧ t.attempts = s.attempts) ∧
      (i ∉ [.genmat, .rank] → t.rank = s.rank ∧ t.mvalid = s.mvalid) ∧
      (i ∉ [.genmat, .ack] → t.errcode = s.errcode ∧ t.errinfo = s.errinfo ∧ t.eovf = s.eovf) ∧
      (i ∉ [.mvmul, .oct, .eval] → t.prod = s.prod) ∧ (i ∉ [.mvmul, .eval] → t.nprod = s.nprod) ∧
      (i ∉ [.oct, .eval] → t.preoct = s.preoct) ∧ (i ∉ [.sboxgen, .eval] → t.sb = s.sb) ∧
      (i ∉ [.anti, .eval] → t.aux = s.aux) ∧ (i ∉ [.chain, .sboxapp, .eval] → t.chain = s.chain) ∧
      (i ∉ [.fold, .eval] → t.result = s.result) ∧ (i ∉ [.cmp, .eval] → t.pass = s.pass)

/-! ## Control commands -/

/-- NOP (46_control.md R200): the word 0 is NOP; no data change; BUSY becomes 0 and DONE 1 (and nothing is in flight any
more); with IE = 1 it raises IRQ; its word written while BUSY = 1 is refused with BUSY_ACCESS. -/
def Obligations.NopOnlyCompletes : Prop :=
  encode .nop = 0x00000000#32 ∧ ∀ s : State,
    (∃ t, exec .nop s = .next t ∧
      t = { s with busy := false, done := true, latch := none, genmat := none } ∧ (s.ie = true → t.irq = true)) ∧
    (s.busy = true → ErrorRecorded s (busWrite s 0x0004#16 0x00000000#32) 0x02#8 0x00010004#32)

/-- ACK (46_control.md R201): ERRCODE, ERRINFO and EOVF are cleared, BUSY becomes 0, DONE, MVALID and PASS are left; a
command in flight had DONE cleared at acceptance, so IRQ is then dropped. -/
def Obligations.AckClearsTheErrorRecord : Prop :=
  encode .ack = 0x0000000E#32 ∧ ∀ s : State, ∃ t, exec .ack s = .next t ∧
    t = { s with errcode := 0#8, errinfo := 0#32, eovf := false, busy := false, latch := none, genmat := none } ∧
    (s.done = false → t.irq = false)

/-! ## The generator -/

/-- GSEED (40_generator.md R111): lane k of S0..S3 is the little-endian value of SEED's bytes 8k..8k+7; nothing else
changes. -/
def Obligations.GseedLoadsTheLanes : Prop :=
  encode .gseed = 0x00000001#32 ∧ ∀ s : State, ∃ t, exec .gseed s = .next t ∧
    t = { s with s0 := t.s0, s1 := t.s1, s2 := t.s2, s3 := t.s3, busy := false, done := true, latch := none,
                 genmat := none } ∧
    t.s0.toNat = ∑ j : Fin 8, (s.seed[0 + j.val]'(by omega)).toNat * 2 ^ (8 * j.val) ∧
    t.s1.toNat = ∑ j : Fin 8, (s.seed[8 + j.val]'(by omega)).toNat * 2 ^ (8 * j.val) ∧
    t.s2.toNat = ∑ j : Fin 8, (s.seed[16 + j.val]'(by omega)).toNat * 2 ^ (8 * j.val) ∧
    t.s3.toNat = ∑ j : Fin 8, (s.seed[24 + j.val]'(by omega)).toNat * 2 ^ (8 * j.val)

/-- GNEXT (40_generator.md R112) with the step of R113, rotations written out as shifts: WORD receives the output word,
S0..S3 the next state; nothing else changes. -/
def Obligations.GnextDrawsOneWord : Prop :=
  encode .gnext = 0x00000002#32 ∧ ∀ s : State, ∃ t, exec .gnext s = .next t ∧
    t = { s with word := t.word, s0 := t.s0, s1 := t.s1, s2 := t.s2, s3 := t.s3, busy := false, done := true,
                 latch := none, genmat := none } ∧
    t.word = ((s.s0 + s.s3) <<< 23 ||| (s.s0 + s.s3) >>> 41) + s.s0 ∧
    t.s0 = s.s0 ^^^ s.s3 ^^^ s.s1 ∧ t.s1 = s.s1 ^^^ s.s2 ^^^ s.s0 ∧
    t.s2 = s.s2 ^^^ s.s0 ^^^ (s.s1 <<< 17) ∧
    t.s3 = ((s.s3 ^^^ s.s1) <<< 45 ||| (s.s3 ^^^ s.s1) >>> 19)

/-- The state update of the generator is a bijection on 256-bit states (40_generator.md R113; 90_conflicts.md C2). -/
def Obligations.GeneratorStepIsBijective : Prop := Function.Bijective fun g : Gen => (xnext g).2

/-- The zero state is a fixed point and yields 0 (40_generator.md R115): GSEED from a zero SEED and every GNEXT after it
leave S0..S3 zero and WORD 0. -/
def Obligations.ZeroStateIsFixed : Prop :=
  xnext ⟨0#64, 0#64, 0#64, 0#64⟩ = (0#64, ⟨0#64, 0#64, 0#64, 0#64⟩) ∧
    seedGen (Vector.replicate 32 0#8) = ⟨0#64, 0#64, 0#64, 0#64⟩

/-! ## The matrix synthesizer and the rank computer -/

/-- The candidate fill (41_matrix.md R122) and the sequence it draws (40_generator.md R114): entry (r, c) is nibble (c mod
16) of word 4r + ⌊c/16⌋ of the generator's sequence, and the state left is the one after 256 words. -/
def Obligations.FillDrawsTheSequence : Prop :=
  ∀ g : Gen,
    (fill g).2 = (fun x => (xnext x).2)^[256] g ∧
      ∀ (r q : Fin 64), ((fill g).1[r][q]).toNat
        = (xnext ((fun x => (xnext x).2)^[4 * r.val + q.val / 16] g)).1.toNat / 2 ^ (4 * (q.val % 16)) % 16

/-- RANK (41_matrix.md R125): RANK is the rank of M, a value in 0..64 that the register holds whole, MVALID says whether
it is 64; M and everything else stay. -/
def Obligations.RankReportsTheRank : Prop :=
  encode .rank = 0x00000004#32 ∧ ∀ s : State, ∃ t, exec .rank s = .next t ∧
    t = { s with rank := t.rank, mvalid := t.mvalid, busy := false, done := true, latch := none, genmat := none } ∧
    t.rank.toNat = rankOf s.m ∧ (t.mvalid = true ↔ rankOf s.m = 64) ∧ rankOf s.m ≤ 64

/-- The Rank Computer's elimination (41_matrix.md R124), written out: W i, sel i and rk i are the work array, the
selected rows and the count before column i. With no unselected row above EPS in the column nothing changes. Else the
least such row j is selected and counted; right of the column row j is divided by the pivot, and every other row whose
entry in the column is above EPS has that entry times row j subtracted; every other entry stays. -/
def Obligations.RankFollowsTheElimination : Prop :=
  ∀ m : Matrix, ∃ (W : Nat → Fin 64 → Fin 64 → Binary64) (sel : Nat → Fin 64 → Bool) (rk : Nat → Nat),
    (∀ r p, W 0 r p = Binary64.ofNat (m[r][p]).toNat) ∧ (∀ r, sel 0 r = false) ∧ rk 0 = 0 ∧ rankOf m = rk 64 ∧
    ∀ i : Fin 64,
      let above : Fin 64 → Prop := fun r => Binary64.absAboveEps (W i r i) = true
      ((∀ r, sel i r = false → ¬ above r) →
        W (i + 1) = W i ∧ sel (i + 1) = sel i ∧ rk (i + 1) = rk i) ∧
      ∀ j, sel i j = false → above j → (∀ r < j, sel i r = false → ¬ above r) →
        rk (i + 1) = rk i + 1 ∧ (∀ r, sel (i + 1) r = true ↔ sel i r = true ∨ r = j) ∧
        (∀ p, i < p → W (i + 1) j p = Binary64.div (W i j p) (W i j i)) ∧
        (∀ r p, r ≠ j → i < p → above r →
          W (i + 1) r p = Binary64.sub (W i r p) (Binary64.mul (W (i + 1) j p) (W i r i))) ∧
        (∀ r p, r ≠ j → ¬ above r → W (i + 1) r p = W i r p) ∧ (∀ r p, p ≤ i → W (i + 1) r p = W i r p)

/-- Ranks of named matrices (41_matrix.md R127): the identity has rank 64 and the all-15 matrix has rank 1. -/
def Obligations.RankOfIdentityAndAllFifteen : Prop :=
  rankOf (Vector.ofFn fun r : Fin 64 => Vector.ofFn fun q : Fin 64 => if r = q then 1#4 else 0#4) = 64 ∧
    rankOf (Vector.replicate 64 (Vector.replicate 64 15#4)) = 1

/-- One turn of a GENMAT (41_matrix.md R121; the attempt per turn is the model's form, log entry 5). With the candidate
of the generator state it stands at: rank 64 completes the command with the candidate in M, the advanced state in
S0..S3, RANK 64, ATTEMPTS the attempt count, MVALID 1 and no error; else, at the cap, it completes with the candidate's
rank, MVALID 0 and GENMAT_CAP recorded with the count; else it stays in flight and only its hidden progress changes.
WORD, SEED and CAP are never written. -/
def Obligations.GenmatTurn : Prop :=
  encode .genmat = 0x00000003#32 ∧ ∀ s : State, ∃ t, exec .genmat s = .next t ∧
    let g := (s.genmat.map GenmatProgress.gen).getD (seedGen s.seed)
    let n : Nat := min (((s.genmat.map GenmatProgress.n).getD 0#32).toNat + 1) 0xFFFFFFFF
    if rankOf (fill g).1 = 64 then
      t = { s with m := (fill g).1, s0 := (fill g).2.s0, s1 := (fill g).2.s1, s2 := (fill g).2.s2,
                   s3 := (fill g).2.s3, rank := 64#7, attempts := t.attempts, mvalid := true, busy := false,
                   done := true, latch := none, genmat := none } ∧ t.attempts.toNat = n
    else if s.cap ≠ 0#32 ∧ s.cap.toNat ≤ n then
      ErrorRecorded
          { s with m := (fill g).1, s0 := (fill g).2.s0, s1 := (fill g).2.s1, s2 := (fill g).2.s2,
                   s3 := (fill g).2.s3, rank := t.rank, attempts := t.attempts, mvalid := false, busy := false,
                   done := true, latch := none, genmat := none }
          t 0x05#8 t.attempts ∧
        t.attempts.toNat = n ∧ t.rank.toNat = rankOf (fill g).1
    else t = { s with genmat := t.genmat } ∧ ∃ p, t.genmat = some p ∧ p.gen = (fill g).2 ∧ p.n.toNat = n

/-- GENMAT follows the loop of 41_matrix.md R121: if the first k candidates of SEED all miss rank 64 and CAP does not end
the loop before, then k turns leave the command in flight, and the next turn, on candidate k + 1, commits it if its rank
is 64 with ATTEMPTS = k + 1, and, if k + 1 is the cap, commits it and records GENMAT_CAP, or EOVF if an error is already
recorded. The stream is never reseeded. That a turn is one attempt is the model's form (log entry 5). -/
def Obligations.GenmatFollowsTheLoop : Prop :=
  ∀ (s : State) (k : Nat), k + 1 < 2 ^ 32 → s.busy = true → s.latch = some .genmat → s.genmat = none →
    (∀ j < k, rankOf (candidate s.seed j) ≠ 64) → (s.cap ≠ 0#32 → k < s.cap.toNat) →
    (∃ t, runSteps k { s with inputs := List.replicate k turnSlot } = .next t ∧
      t = { s with inputs := [], rdata := t.rdata, genmat := t.genmat }) ∧
    (∃ t, runSteps (k + 1) { s with inputs := List.replicate (k + 1) turnSlot } = .next t ∧
      (rankOf (candidate s.seed k) = 64 → t.busy = false ∧ t.done = true ∧ t.m = candidate s.seed k ∧
        t.gen = genAfter s.seed (k + 1) ∧ t.rank = 64#7 ∧ t.attempts.toNat = k + 1 ∧ t.mvalid = true ∧
        t.errcode = s.errcode ∧ t.errinfo = s.errinfo ∧ t.eovf = s.eovf ∧ t.word = s.word) ∧
      (rankOf (candidate s.seed k) ≠ 64 → s.cap.toNat = k + 1 → t.busy = false ∧ t.done = true ∧
        t.m = candidate s.seed k ∧ t.gen = genAfter s.seed (k + 1) ∧
        t.rank.toNat = rankOf (candidate s.seed k) ∧ t.attempts.toNat = k + 1 ∧ t.mvalid = false ∧
        (s.errcode = 0#8 → t.errcode = 0x05#8 ∧ t.errinfo.toNat = k + 1 ∧ t.eovf = s.eovf) ∧
        (s.errcode ≠ 0#8 → t.errcode = s.errcode ∧ t.errinfo = s.errinfo ∧ t.eovf = true) ∧ t.word = s.word))

/-- The hang the spec demands (00_scope.md R18; 40_generator.md R115): with a zero SEED and CAP = 0 a GENMAT in flight is
still in flight after any number of turns, nothing but its hidden progress has changed, and a soft reset ends it. A
turn is one attempt (the model's form, log entry 5). -/
def Obligations.ZeroSeedGenmatNeverCompletes : Prop :=
  ∀ (s : State) (n : Nat), s.busy = true → s.latch = some .genmat → s.genmat = none → s.cap = 0#32 →
    s.seed = Vector.replicate 32 0#8 →
    ∃ t, runSteps n { s with inputs := List.replicate n turnSlot } = .next t ∧
      t = { s with inputs := [], rdata := t.rdata, genmat := t.genmat } ∧
      ∀ v : Word32, v.getLsbD 1 = true → (busWrite t 0x000C#16 v).busy = false

/-- A cap bounds GENMAT (41_matrix.md R121; 60_exceptions.md R213): with CAP ≠ 0 a GENMAT just accepted has completed
after CAP turns of the sequencer, with MVALID = 1 or with ATTEMPTS = CAP. A turn is one attempt (the
model's form, log entry 5). -/
def Obligations.CapBoundsGenmat : Prop :=
  ∀ s : State, s.busy = true → s.latch = some .genmat → s.genmat = none → s.cap ≠ 0#32 →
    ∃ t, runSteps s.cap.toNat { s with inputs := List.replicate s.cap.toNat turnSlot } = .next t ∧
      t.busy = false ∧ t.done = true ∧ (t.mvalid = true ∨ t.attempts = s.cap)

/-! ## Binary64 -/

/-- The exact parts of 00_scope.md R13: f64(n) is n for 0 ≤ n ≤ 15, EPS is 1e-9 rounded once to binary64, and the test
|x| > EPS compares the values. -/
def Obligations.BinarySixtyFourConstants : Prop :=
  (∀ n ≤ 15, Binary64.val (Binary64.ofNat n) = (n : ℚ) ∧ Binary64.canonical (Binary64.ofNat n)) ∧
    IsRounded (1 / 1000000000) (.fin false Binary64.epsMant Binary64.epsExp) ∧
    ∀ (b : Bool) (m : Nat) (e : Int), Binary64.absAboveEps (.fin b m e) = true ↔
      Binary64.val (.fin false Binary64.epsMant Binary64.epsExp) < |Binary64.val (.fin b m e)|

/-- Every operation of the Rank Computer is one binary64 operation, rounded once, to nearest, ties to even (00_scope.md
R13; 41_matrix.md R126): on finite canonical values the product, the difference and the quotient by a nonzero value are
the exact ones rounded. Infinities, NaN, division by zero and the sign of an exact zero are not in this statement. -/
def Obligations.BinaryArithmeticRoundsOnce : Prop :=
  ∀ (b₁ b₂ : Bool) (m₁ m₂ : Nat) (e₁ e₂ : Int),
    Binary64.canonical (.fin b₁ m₁ e₁) → Binary64.canonical (.fin b₂ m₂ e₂) →
    let x : Binary64 := .fin b₁ m₁ e₁
    let y : Binary64 := .fin b₂ m₂ e₂
    IsRounded (x.val * y.val) (Binary64.mul x y) ∧ IsRounded (x.val - y.val) (Binary64.sub x y) ∧
      (m₂ ≠ 0 → IsRounded (x.val / y.val) (Binary64.div x y))

/-! ## The mixing stages, for every record K -/

/-- MVMUL (42_mixing.md R141-R144): P[i] and N[i] are the two bytes K.MV_COMBINE gives for the four exact sums of the
selected rows with the digest's nibbles, high nibble first, each XORed with D[i]; nothing else changes. -/
def Obligations.MvmulCombinesExactSums : Prop :=
  encode .mvmul = 0x00000005#32 ∧ ∀ s : State, ∃ t, exec .mvmul s = .next t ∧
    t = { s with prod := t.prod, nprod := t.nprod, busy := false, done := true, latch := none, genmat := none } ∧
    ∀ i : Fin 32,
      let nib : Fin 64 → Nat := fun j =>
        if j.val % 2 = 0 then (s.digest[j.val / 2]'(by omega)).toNat / 16
        else (s.digest[j.val / 2]'(by omega)).toNat % 16
      let sum : Fin 4 → Nat := fun k =>
        ∑ j : Fin 64, (s.m[Config.protocolK.rowsel k i][j]).toNat * nib j
      let pair := Config.protocolK.mvCombine i (sum 0) (sum 1) (sum 2) (sum 3)
      t.prod[i] = pair.1 ^^^ s.digest[i] ∧ t.nprod[i] = pair.2 ^^^ s.digest[i]

/-- The sums of stage 2 lie in 0..14400, and the bound is reached (42_mixing.md R143). -/
def Obligations.WeightedSumsAreBounded : Prop :=
  (∀ row nib : Vector Nibble 64, weightedSum row nib ≤ 14400) ∧
    weightedSum (Vector.replicate 64 15#4) (Vector.replicate 64 15#4) = 14400

/-- K's octonion table meets the constraints of 42_mixing.md R146, whatever the record's choices: e0 is the identity,
e_i·e_i = −e0, and distinct imaginary units anticommute into a third one; and every table that meets them is the table
of some record (log entry 2). -/
def Obligations.OctonionTableIsAdmissible : Prop :=
  (∀ (k : ProtocolK) (i j : Fin 8),
    octIdx k 0 j = j ∧ octIdx k i 0 = i ∧ octNeg k 0 j = false ∧ octNeg k i 0 = false ∧
      (i ≠ 0 → octIdx k i i = 0 ∧ octNeg k i i = true) ∧
      (i ≠ 0 → j ≠ 0 → i ≠ j → octIdx k i j = octIdx k j i ∧ octIdx k i j ≠ 0 ∧ octIdx k i j ≠ i ∧
        octIdx k i j ≠ j ∧ octNeg k j i = !octNeg k i j)) ∧
  ∀ (idx : Fin 8 → Fin 8 → Fin 8) (neg : Fin 8 → Fin 8 → Bool),
    (∀ i j, idx 0 j = j ∧ idx i 0 = i ∧ neg 0 j = false ∧ neg i 0 = false ∧
      (i ≠ 0 → idx i i = 0 ∧ neg i i = true) ∧
      (i ≠ 0 → j ≠ 0 → i ≠ j → idx i j = idx j i ∧ idx i j ≠ 0 ∧ idx i j ≠ i ∧ idx i j ≠ j ∧ neg j i = !neg i j)) →
    ∃ k : ProtocolK, ∀ i j, octIdx k i j = idx i j ∧ octNeg k i j = neg i j

/-- The octonion product (42_mixing.md R146): component e of octmul(a, b) is, modulo 2^64, the sum over the pairs whose
index is e of sign · a[i] · b[j]. -/
def Obligations.OctonionProductIsTheSignedSum : Prop :=
  ∀ (k : ProtocolK) (a b : Octonion) (e : Fin 8),
    ((octmul k a b)[e]).toNat =
      ((∑ i : Fin 8, ∑ j : Fin 8,
          if octIdx k i j = e then (if octNeg k i j then (-1 : ℤ) else 1) * (a[i].toNat * b[j].toNat : ℤ) else 0)
        % 2 ^ 64).toNat

/-- Laws of the octonion product for every table (95_test_vectors.md V-OCT-1): e0 is the identity on both sides, and
distinct imaginary units anticommute. -/
def Obligations.OctonionUnitLaws : Prop :=
  ∀ (k : ProtocolK),
    let unit : Fin 8 → Octonion := fun i => Vector.ofFn fun j => if j = i then 1#64 else 0#64
    (∀ b, octmul k (unit 0) b = b ∧ octmul k b (unit 0) = b) ∧
      (∀ i j : Fin 8, i ≠ 0 → j ≠ 0 → i ≠ j → ∀ e : Fin 8,
        (octmul k (unit i) (unit j))[e] = -(octmul k (unit j) (unit i))[e]) ∧
      (∀ i : Fin 8, i ≠ 0 → octmul k (unit i) (unit i) = Vector.ofFn fun j => if j = 0 then -(1#64) else 0#64)

/-- OCT (42_mixing.md R145): Q receives P; starting from the first eight bytes of P, the accumulator is right-multiplied
once per round by that round's window of the P before OCT; component i's low byte is XORed into P[i] for i < 8, P[8..31]
and everything else stay. -/
def Obligations.OctMixesTheFirstEightBytes : Prop :=
  encode .oct = 0x00000006#32 ∧ ∀ s : State, ∃ t, exec .oct s = .next t ∧
    t = { s with prod := t.prod, preoct := s.prod, busy := false, done := true, latch := none, genmat := none } ∧
    ∃ acc : Nat → Octonion,
      (∀ i : Fin 8, (acc 0)[i] = (s.prod[i.val]'(by omega)).setWidth 64) ∧
      (∀ r, r < octRounds Config.protocolK →
        acc (r + 1) = octmul Config.protocolK (acc r)
          (Vector.ofFn fun i => (s.prod[Config.protocolK.octWindow r i]).setWidth 64)) ∧
      (∀ i : Fin 8, t.prod[i.val]'(by omega)
        = (s.prod[i.val]'(by omega)) ^^^ (acc (octRounds Config.protocolK))[i].setWidth 8) ∧
      ∀ i : Fin 32, 8 ≤ i.val → t.prod[i] = s.prod[i]

/-! ## The S-box -/

/-- SBOXGEN (43_sbox.md R161-R164): SB becomes the table whose entry i is the selected byte XOR the value, refined once
or twice as the product byte says; nothing else changes and the old SB is not read. -/
def Obligations.SboxgenBuildsAndRefines : Prop :=
  encode .sboxgen = 0x00000007#32 ∧ ∀ s : State, ∃ t, exec .sboxgen s = .next t ∧
    t = { s with sb := t.sb, busy := false, done := true, latch := none, genmat := none } ∧
    ∃ initial : Table,
      (∀ i : Fin 256, initial[i] =
        (bufsAt s.bufs (Config.protocolK.sboxSrc i))[Config.protocolK.sboxIdx i s.bufs]
          ^^^ Config.protocolK.sboxVal i s.bufs) ∧
      t.sb = if Config.protocolK.sboxIterLess1 s.prod[Config.protocolK.sboxIterPos] = 0
        then Config.protocolK.sboxRefine initial s.bufs
        else Config.protocolK.sboxRefine (Config.protocolK.sboxRefine initial s.bufs) s.bufs

/-- SBOXAPP (43_sbox.md R165): H[i] becomes H[i] XOR the entry of SB at K.SAPP_IDX(i, Bufs); nothing else changes; with
SB all zero H is unchanged; applied twice it restores H. -/
def Obligations.SboxappIsAnInvolution : Prop :=
  encode .sboxapp = 0x0000000A#32 ∧ ∀ s : State, ∃ t u, exec .sboxapp s = .next t ∧ exec .sboxapp t = .next u ∧
    t = { s with chain := t.chain, busy := false, done := true, latch := none, genmat := none } ∧
    (∀ i : Fin 32, t.chain[i] = s.chain[i] ^^^ s.sb[Config.protocolK.sappIdx i s.bufs]) ∧
    (s.sb = Vector.replicate 256 0#8 → t.chain = s.chain) ∧ u.chain = s.chain

/-! ## Hashing, comparison, evaluation -/

/-- ANTI (44_hashing.md R180): A becomes K.ANTI(P); P and everything else stay. -/
def Obligations.AntiWritesAux : Prop :=
  encode .anti = 0x00000008#32 ∧ ∀ s : State, exec .anti s = .next
    { s with aux := Config.protocolK.anti s.prod, busy := false, done := true, latch := none, genmat := none }

/-- CHAIN (44_hashing.md R181): H becomes K.HCHAIN applied to P as often as K.CHAIN_MAP says of the byte of P at
K.CHAIN_POS, once, twice or three times, the count taken from P before hashing; P and everything else stay, and the old
H is not read. -/
def Obligations.ChainHashesOneToThreeTimes : Prop :=
  encode .chain = 0x00000009#32 ∧ ∀ s : State, ∃ t, exec .chain s = .next t ∧
    t = { s with chain := t.chain, busy := false, done := true, latch := none, genmat := none } ∧
    t.chain = Config.protocolK.hchain^[(Config.protocolK.chainLess1 s.prod[Config.protocolK.chainPos]).val + 1] s.prod

/-- FOLD (44_hashing.md R182): R becomes K.HFINAL(H ^ A); PASS and everything else stay. -/
def Obligations.FoldWritesResult : Prop :=
  encode .fold = 0x0000000B#32 ∧ ∀ s : State, ∃ t, exec .fold s = .next t ∧
    t = { s with result := t.result, busy := false, done := true, latch := none, genmat := none } ∧
    ∃ x : Bytes32, (∀ i : Fin 32, x[i] = s.chain[i] ^^^ s.aux[i]) ∧ t.result = Config.protocolK.hfinal x

/-- CMP (45_compare.md R190): PASS is 1 iff RESULT is at most TARGET as little-endian 256-bit numbers; nothing else
changes. -/
def Obligations.CmpComparesLittleEndian : Prop :=
  encode .cmp = 0x0000000C#32 ∧ ∀ s : State, ∃ t, exec .cmp s = .next t ∧
    t = { s with pass := t.pass, busy := false, done := true, latch := none, genmat := none } ∧
    (t.pass = true ↔ ∑ k : Fin 32, (s.result[k]).toNat * 256 ^ k.val ≤ ∑ k : Fin 32, (s.target[k]).toNat * 256 ^ k.val)

/-- The comparison law (45_compare.md R191): PASS is the unsigned order of the 256-bit values; equality passes, and
otherwise the most significant byte in which the two differ, counted from byte 31 down, decides. -/
def Obligations.ComparisonIsMostSignificantByteFirst : Prop :=
  ∀ r t : Bytes32,
    (passFlag r t = true ↔ ∑ k : Fin 32, (r[k]).toNat * 2 ^ (8 * k.val) ≤ ∑ k : Fin 32, (t[k]).toNat * 2 ^ (8 * k.val)) ∧
    (passFlag r t = true ↔ r = t ∨ ∃ k : Fin 32, r[k] < t[k] ∧ ∀ j : Fin 32, k < j → r[j] = t[j])

/-- EVAL (45_compare.md R192): it completes, and its final state is the one the eight commands MVMUL, OCT, SBOXGEN, ANTI,
CHAIN, SBOXAPP, FOLD, CMP leave one by one; SEED, S0..S3, MVALID, M, DIGEST and TARGET are not changed, and SEED, S0..S3
and MVALID are not read. -/
def Obligations.EvalIsTheEightStages : Prop :=
  encode .eval = 0x0000000D#32 ∧ ∀ s : State, ∃ t₁ t₂ t₃ t₄ t₅ t₆ t₇ t : State,
    exec .mvmul s = .next t₁ ∧ exec .oct t₁ = .next t₂ ∧ exec .sboxgen t₂ = .next t₃ ∧ exec .anti t₃ = .next t₄ ∧
      exec .chain t₄ = .next t₅ ∧ exec .sboxapp t₅ = .next t₆ ∧ exec .fold t₆ = .next t₇ ∧ exec .cmp t₇ = .next t ∧
      exec .eval s = .next t ∧
      t = { s with prod := t.prod, nprod := t.nprod, preoct := t.preoct, sb := t.sb, aux := t.aux, chain := t.chain,
                   result := t.result, pass := t.pass, busy := false, done := true, latch := none, genmat := none } ∧
      ∀ (x : Bytes32) (a b c d : Word64) (v : Bool),
        exec .eval { s with seed := x, s0 := a, s1 := b, s2 := c, s3 := d, mvalid := v }
          = .next { t with seed := x, s0 := a, s1 := b, s2 := c, s3 := d, mvalid := v }

/-- One EVAL equals the eight commands issued by the host one by one (45_compare.md R192; 30_encoding.md R99): from
BUSY = 0, eight slots that each write a stage's command word and let the sequencer act leave the same state as one slot
that writes EVAL's. A slot is the model's form of one place in
the total order of R70 (log entry 4). -/
def Obligations.EvalEqualsEightIssuedCommands : Prop :=
  ∀ (s : State) (rest : List Slot), s.busy = false →
    runSteps 8 { s with inputs :=
        ([Instr.mvmul, .oct, .sboxgen, .anti, .chain, .sboxapp, .fold, .cmp].map fun i => commandSlot (encode i)) ++ rest }
      = runSteps 1 { s with inputs := commandSlot (encode .eval) :: rest }
end

