-- ==== Sys2Proof/Tests/Slice0.lean ====
section
/-! SUPPORT. Tests on fixed values, each from a vector of 95_test_vectors.md or a worked example of a rule, and, for
every statement with hypotheses, a witness that meets them together. -/

namespace Sys2Proof.Tests

open Sys2Proof.Machine

/-! ## Well-formedness and decoding -/

/-- The check on the reserved field refuses a word with RSV ≠ 0 (V-ENC, 30_encoding.md R94). -/
theorem test_reserved_field_refused : reservedClear 0x00000103#32 = false := by decide

/-- The check on the opcode refuses the reserved opcode 0x0F (30_encoding.md R94). -/
theorem test_reserved_opcode_refused : opcodeListed 0x0000000F#32 = false := by decide

/-- The word check refuses both ill-formed words and passes the last legal one. -/
theorem test_word_check :
    wordLegal 0x00000103#32 = false ∧ wordLegal 0x0000000F#32 = false ∧ wordLegal 0x0000000E#32 = true := by decide

/-- Bits 31:8 all zero, then the opcode, for each command (30_encoding.md R90, R93). -/
theorem test_decode_written_out :
    decode (0#24 ++ 0b00000000#8) = .ok .nop ∧ decode (0#24 ++ 0b00000001#8) = .ok .gseed ∧
    decode (0#24 ++ 0b00000010#8) = .ok .gnext ∧ decode (0#24 ++ 0b00000011#8) = .ok .genmat ∧
    decode (0#24 ++ 0b00000100#8) = .ok .rank ∧ decode (0#24 ++ 0b00000101#8) = .ok .mvmul ∧
    decode (0#24 ++ 0b00000110#8) = .ok .oct ∧ decode (0#24 ++ 0b00000111#8) = .ok .sboxgen ∧
    decode (0#24 ++ 0b00001000#8) = .ok .anti ∧ decode (0#24 ++ 0b00001001#8) = .ok .chain ∧
    decode (0#24 ++ 0b00001010#8) = .ok .sboxapp ∧ decode (0#24 ++ 0b00001011#8) = .ok .fold ∧
    decode (0#24 ++ 0b00001100#8) = .ok .cmp ∧ decode (0#24 ++ 0b00001101#8) = .ok .eval ∧
    decode (0#24 ++ 0b00001110#8) = .ok .ack :=
  ⟨rfl, rfl, rfl, rfl, rfl, rfl, rfl, rfl, rfl, rfl, rfl, rfl, rfl, rfl, rfl⟩

/-- Reserved opcodes and a set reserved bit are refused by name (30_encoding.md R94). -/
theorem test_decode_refuses :
    decode 0x0000000F#32 = .error .reservedOpcode ∧ decode 0x000000FF#32 = .error .reservedOpcode ∧
      decode 0x00000103#32 = .error .reservedBits ∧ decode 0x80000000#32 = .error .reservedBits :=
  ⟨rfl, rfl, rfl, rfl⟩

/-- The table's numbering of the bits is the command word's own. -/
theorem test_decodeTableWord : decodeTableWord 32 0x0D = some .eval ∧ decodeTableWord 32 0x10D = none := by decide

/-! ## Helpers -/

/-- A buffer from its first bytes, the rest 0. -/
def bytes (l : List Nat) : Bytes32 := Vector.ofFn fun i : Fin 32 => BitVec.ofNat 8 (l.getD i.val 0)

/-- SEED = 00 01 … 1F. -/
def seedRising : Bytes32 := Vector.ofFn fun i : Fin 32 => BitVec.ofNat 8 i.val

/-- What `f` sees after the command word `w` has run from `s`. -/
def sees {α : Type} (s : State) (w : Nat) (f : State → α) : Option α :=
  match step (s.withFetchWord 32 w) with
  | .next t => some (f t)
  | .fault _ => none
  | .refused _ => none

/-- What `f` sees after a run of the given slots from `s`. -/
def seesRun {α : Type} (s : State) (slots : List Slot) (f : State → α) : Option α :=
  match runSteps slots.length { s with inputs := slots } with
  | .next t => some (f t)
  | .fault _ => none
  | .refused _ => none

/-- The reset state but for BUSY = 1. -/
def busyReset : State := { State.reset with busy := true }

/-- STATUS and ERRINFO, as the vectors give them. -/
def statusAndInfo (s : State) : Word32 × Word32 := (s.statusWord, s.errinfo)

/-! ## One command each -/

/-- `RUN NOP` from reset gives STATUS = 0x00000002 (46_control.md R200). -/
theorem test_nop : sees State.reset 0x00 State.statusWord = some 0x00000002#32 := by decide +kernel

/-- ILLEGAL_CMD, then ACK: STATUS = 0 (46_control.md R201). -/
theorem test_ack :
    sees { State.reset with errcode := 0x01#8, errinfo := 0x10#32, done := true } 0x0E statusAndInfo
      = some (0x00000000#32, 0x00000000#32) := by decide +kernel

/-- V-GEN-1: the lanes of the rising seed. -/
theorem test_gseed :
    sees { State.reset with seed := seedRising } 0x01 (fun t => (t.s0, t.s1, t.s2, t.s3))
      = some (0x0706050403020100#64, 0x0f0e0d0c0b0a0908#64, 0x1716151413121110#64, 0x1f1e1d1c1b1a1918#64) := by
  decide +kernel

/-- V-GEN-4: the first word from the state (1, 2, 3, 4). -/
theorem test_gnext_published :
    sees { State.reset with s0 := 1#64, s1 := 2#64, s2 := 3#64, s3 := 4#64 } 0x02 State.word
      = some 0x0000000002800001#64 := by decide +kernel

/-- V-GEN-5: the sum s0 + s3 wraps. -/
theorem test_gnext_wraps :
    sees { State.reset with s0 := 0xffffffffffffffff#64, s3 := 1#64 } 0x02 (fun t => (t.word, t.s0, t.s1, t.s2, t.s3))
      = some (0xffffffffffffffff#64, 0xfffffffffffffffe#64, 0xffffffffffffffff#64, 0xffffffffffffffff#64,
          0x0000200000000000#64) := by decide +kernel

/-- V-GENMAT-1, row 0, columns 44 to 51: `4caaaaaa` ends it, from the fourth word of V-GEN-2. -/
theorem test_fill_nibble_order :
    (List.range 16).map (nibbleOf 0xaaaaaac4c4ae221e#64)
      = [0xe#4, 0x1#4, 0x2#4, 0x2#4, 0xe#4, 0xa#4, 0x4#4, 0xc#4, 0x4#4, 0xc#4, 0xa#4, 0xa#4, 0xa#4, 0xa#4, 0xa#4, 0xa#4] := by
  decide +kernel

/-- V-RANK-2: the zero matrix has rank 0, so RANK leaves MVALID 0. -/
theorem test_rank_of_zero : exec .rank State.reset = .next (complete (State.reset.setRank 0)) := by
  rw [exec_rank, rankOf_zero _ (fun r i => by simp)]

/-- The binary64 operations of the Rank Computer on 1/3, and EPS itself is not above EPS (41_matrix.md R126). -/
theorem test_binary64 :
    Binary64.div (Binary64.ofNat 1) (Binary64.ofNat 3) = .fin false 0x15555555555555 (-54) ∧
      Binary64.absAboveEps (.fin false Binary64.epsMant Binary64.epsExp) = false ∧
      Binary64.absAboveEps (.fin true (Binary64.epsMant + 1) Binary64.epsExp) = true ∧
      Binary64.absAboveEps .nan = false := by decide +kernel

/-- V-MV-1: high nibble first. -/
theorem test_nibbles : ((nibbleVector (bytes [0x52, 0x2e, 0xd4])).toList.take 6)
    = [5#4, 2#4, 2#4, 0xe#4, 0xd#4, 4#4] := by decide +kernel

/-- V-CMP-4: value 1 against 2^248 passes. -/
theorem test_cmp_passes :
    sees { State.reset with result := bytes [1], target := bytes (List.replicate 31 0 ++ [1]) } 0x0C State.pass
      = some true := by decide +kernel

/-- V-CMP-5: 2^248 against 2^248 − 1 fails. -/
theorem test_cmp_fails :
    sees { State.reset with result := bytes (List.replicate 31 0 ++ [1]),
                            target := bytes (List.replicate 31 255), pass := true } 0x0C State.pass
      = some false := by decide +kernel

/-- V-SBOX-1: SBOXAPP with SB all zero leaves H, whatever K is. -/
theorem test_sboxapp_zero_table (k : ProtocolK) (h : Bytes32) :
    (sboxappStage k { State.reset with chain := h }).chain = h := by
  ext i hi
  simp [sboxappStage]

/-! ## The bus -/

/-- An illegal word from reset: STATUS = 0x00000102, ERRINFO = the word (60_exceptions.md R211). -/
theorem test_illegal_command :
    seesRun State.reset [⟨.write 0x0004#16 0x80000000#32, true⟩] statusAndInfo
      = some (0x00000102#32, 0x80000000#32) := by decide +kernel

/-- A second command while BUSY = 1 is BUSY_ACCESS at address 4, W = 1 (60_exceptions.md R212). -/
theorem test_busy_access :
    seesRun State.reset [⟨.write 0x0004#16 0#32, false⟩, ⟨.write 0x0004#16 0#32, false⟩] statusAndInfo
      = some (0x00000201#32, 0x00010004#32) := by decide +kernel

/-- A misaligned read returns 0 and records BUS_UNMAPPED; a second error sets EOVF (60_exceptions.md R212, R214). -/
theorem test_unmapped_then_overflow :
    seesRun State.reset [⟨.write 0x0008#16 1#32, false⟩, ⟨.read 0x0003#16, false⟩]
        (fun t => (t.rdata, t.statusWord, t.errinfo))
      = some (some 0#32, 0x00000410#32, 0x00010008#32) := by decide +kernel

/-- A matrix word keeps bits 3:0 of each byte (20_memory.md R66). -/
theorem test_matrix_window :
    seesRun State.reset [⟨.write 0x1FFC#16 0xA1B2C3D4#32, false⟩, ⟨.read 0x1FFC#16, false⟩] State.rdata
      = some (some 0x01020304#32) := by decide +kernel

/-- A soft reset ignores bit 0 of the same write (10_state.md R35). -/
theorem test_soft_reset :
    seesRun { State.reset with cap := 7#32, busy := true, latch := some .genmat } [⟨.write 0x000C#16 3#32, false⟩]
        (fun t => (t.cap, t.ie, t.busy, t.latch)) = some (0#32, false, false, none) := by decide +kernel

/-! ## K_TOY (95_test_vectors.md section 4): the parts of the pipeline vectors the kernel evaluates quickly -/

/-- `z` for the triples (x, y, z) of K_TOY's table and their rotations. -/
def fano (i j : Fin 8) : Option (Fin 8) :=
  let ts : List (Fin 8 × Fin 8 × Fin 8) := [(1, 2, 4), (2, 3, 5), (3, 4, 6), (4, 5, 7), (5, 6, 1), (6, 7, 2), (7, 1, 3)]
  ((ts ++ ts.map (fun t => (t.2.1, t.2.2, t.1)) ++ ts.map (fun t => (t.2.2, t.1, t.2.1))).find?
    fun t => t.1 = i ∧ t.2.1 = j).map (·.2.2)

/-- K_TOY. -/
def kToy : ProtocolK where
  rowsel k i := Fin.ofNat 64 (2 * i.val + k.val)
  mvCombine _ s1 s2 s3 s4 :=
    (BitVec.ofNat 8 (((s1 >>> 10) <<< 4) ||| (s2 >>> 10)), BitVec.ofNat 8 (((s3 &&& 15) <<< 4) ||| (s4 &&& 15)))
  octIdxChoice i j := ((fano i j).orElse fun _ => fano j i).getD 0
  octNegChoice i j := (fano i j).isNone
  octRoundsLess1 := 2
  octWindow r k := Fin.ofNat 32 (8 * (r + 1) + k.val)
  sboxSrc i := if i.val < 64 then .p else if i.val < 128 then .d else if i.val < 192 then .n else .q
  sboxIdx i b := Fin.ofNat 32 (i.val + (b.p[i.val % 32]).toNat)
  sboxVal i b := BitVec.ofNat 8 (7 * i.val + (b.d[i.val % 32]).toNat)
  sboxIterPos := 0
  sboxIterLess1 x := Fin.ofNat 2 x.toNat
  sboxRefine t _ := Vector.ofFn fun i : Fin 256 => (t[i]).rotateLeft (i.val % 8) ^^^ t[(i.val + 1) % 256]
  sappIdx i b := Fin.ofNat 256 ((b.p[i] ^^^ b.q[i] ^^^ b.n[i] ^^^ b.d[i]).toNat + i.val)
  anti x := Vector.ofFn fun i : Fin 32 => (x[i]).rotateLeft 1 ^^^ x[(i.val + 1) % 32]
  hchain x := Vector.ofFn fun i : Fin 32 => x[i] + BitVec.ofNat 8 (i.val + 1)
  chainPos := 1
  chainLess1 x := Fin.ofNat 3 x.toNat
  hfinal x := Vector.ofFn fun i : Fin 32 => x[i] ^^^ 0x5a#8

/-- P after MVMUL in V-EVAL-1. -/
def pBefore : Bytes32 := bytes
  [0x61, 0x1d, 0xe7, 0xe9, 0x5f, 0x84, 0xbc, 0x18, 0xe6, 0x76, 0x75, 0x7b, 0xb1, 0xd2, 0xaf, 0xfe, 0x0a, 0xac, 0xa6,
   0x80, 0x89, 0x5a, 0xac, 0xe5, 0x2e, 0x98, 0xb3, 0xcb, 0x9a, 0xf0, 0x22, 0x6a]

/-- P after OCT in V-EVAL-1. -/
def pAfter : Bytes32 := bytes
  [0xef, 0xc7, 0x71, 0x3d, 0xc7, 0x08, 0x52, 0xe8, 0xe6, 0x76, 0x75, 0x7b, 0xb1, 0xd2, 0xaf, 0xfe, 0x0a, 0xac, 0xa6,
   0x80, 0x89, 0x5a, 0xac, 0xe5, 0x2e, 0x98, 0xb3, 0xcb, 0x9a, 0xf0, 0x22, 0x6a]

/-- V-MV-6: the identity with D[0] = 0x10, so N[31] = 0x10, P[31] = 0 and P[0] = 0x10. -/
theorem test_mvmul :
    let t := mvmulStage kToy
      { State.reset with
        digest := bytes [0x10]
        m := Vector.ofFn fun r : Fin 64 => Vector.ofFn fun q : Fin 64 => if r = q then 1#4 else 0#4 }
    t.nprod[31] = 0x10#8 ∧ t.prod[31] = 0#8 ∧ t.prod[0] = 0x10#8 := by decide +kernel

/-- V-OCT-3: the first component of the accumulator after round 3. -/
theorem test_oct_accumulator : (octAccumulator kToy pBefore)[0] = 0x00000003a6938b8e#64 := by decide +kernel

/-- V-OCT-3: byte 7 of P after OCT, and byte 8 unchanged, from the accumulator's last component. -/
theorem test_oct_write_back :
    (octWriteBack pBefore (Vector.ofFn fun i => if i = 7 then 0x0000000134d6c8f0#64 else 0#64))[7] = 0xe8#8 ∧
      (octWriteBack pBefore (Vector.replicate 8 0xffffffffffffffff#64))[8] = 0xe6#8 := by decide +kernel

/-- V-SBOX-2: entry 0 before refinement, and two passes. -/
theorem test_sbox_entry :
    let b : Bufs := ⟨pAfter, bytes [0x52, 0x2e], bytes [], pBefore⟩
    sboxEntry kToy b 0 = 0xac#8 ∧ sboxEntry kToy b 1 = 0xd3#8 ∧ sboxIters kToy b = 2 := by decide +kernel

/-- V-HASH-1 and V-HASH-2: A[0], and H[31] after two hashes of P. -/
theorem test_hash_stages :
    (antiStage kToy { State.reset with prod := pAfter }).aux[0] = 0x18#8 ∧ chainCount kToy pAfter = 2 ∧
      (chainStage kToy { State.reset with prod := pAfter }).chain[31] = 0xaa#8 := by decide +kernel

/-- V-HASH-3: R[0] = (0x88 ^ 0x18) ^ 0x5a. -/
theorem test_fold :
    (foldStage kToy { State.reset with chain := bytes [0x88], aux := bytes [0x18] }).result[0] = 0xca#8 := by
  decide +kernel

/-- V-SBOX-3: H[0] with SB[96] = 0x79. -/
theorem test_sboxapp :
    (sboxappStage kToy
        { State.reset with
          prod := bytes [0xef], preoct := bytes [0x61], nprod := bytes [0xbc], digest := bytes [0x52]
          chain := bytes [0xf1], sb := Vector.ofFn fun i => if i = 96 then 0x79#8 else 0#8 }).chain[0] = 0x88#8 := by
  decide +kernel

/-! ## Witnesses: for each statement with hypotheses, values that meet them together -/

/-- OpcodeMapIsTheTable: both ends of the reserved range. -/
theorem witness_OpcodeMapIsTheTable :
    (0x0F ≤ (0x0000000F#32).toNat ∧ (0x0000000F#32).toNat ≤ 0xFF) ∧
      (0x0F ≤ (0x000000FF#32).toNat ∧ (0x000000FF#32).toNat ≤ 0xFF) := by decide

/-- WordIsLegalExactlyWhen: the last legal word. -/
theorem witness_WordIsLegalExactlyWhen : decode 0x0000000E#32 = .ok .ack := rfl

/-- AccessChecksInOrder, each clause at its boundaries. -/
theorem witness_AccessChecksInOrder :
    (¬ mappedWord 0x0028#16 ∧ ¬ mappedWord 0x2000#16 ∧ ¬ mappedWord 0x0001#16 ∧ ¬ mappedWord 0xFFFF#16) ∧
    (mappedWord 0x0004#16 ∧ ¬ openAddress 0x0004#16 ∧ mappedWord 0x1FFC#16 ∧ ¬ openAddress 0x1FFC#16 ∧
      busyReset.busy = true) ∧
    (mappedWord 0x0000#16 ∧ openAddress 0x0000#16 ∧ readOnlyAddress 0x0000#16 ∧ mappedWord 0x000C#16 ∧
      openAddress 0x000C#16 ∧ ¬ readOnlyAddress 0x000C#16 ∧ mappedWord 0x0010#16 ∧ readOnlyAddress 0x0010#16 ∧
      State.reset.busy = false) := by
  and_intros <;> decide

/-- ReadsHaveNoSideEffects: an accepted read at the last mapped word. -/
theorem witness_ReadsHaveNoSideEffects :
    mappedWord 0x1FFC#16 ∧ (State.reset.busy = true → openAddress 0x1FFC#16) := by
  decide

/-- WrittenWordReadsBack and WriteLeavesOtherWords: with BUSY = 0, the last word of the S-box, and another location. -/
theorem witness_plain_storage :
    State.reset.busy = false ∧ plainStorage (.sb 63) = true ∧ Loc.sb 62 ≠ Loc.sb 63 := by decide

/-- MatrixWindowStoresNibbles, EvalEqualsEightIssuedCommands, LegalWordIsAccepted, StepRunsTheDecodedCommand: BUSY = 0
and a legal word, in a state whose next slot writes it. -/
theorem witness_legal_word_next :
    let s : State := { State.reset with inputs := [⟨.write 0x0004#16 0x00000002#32, true⟩] }
    s.busy = false ∧ decode 0x00000002#32 = .ok .gnext ∧ s.inputs = ⟨.write 0x0004#16 0x00000002#32, true⟩ :: [] :=
  ⟨rfl, rfl, rfl⟩

/-- CtrlHoldsOnlyIe and ResetClearsTheBlock: a word with bit 1 clear, and one with it set. -/
theorem witness_ctrl_words : (0x00000001#32).getLsbD 1 = false ∧ (0x00000003#32).getLsbD 1 = true := by decide

/-- FirstErrorIsKeptUntilAckOrReset: a state with no error; one with an error that steps and keeps it; an ACK in flight
and a written ACK, each with an error recorded and the sequencer's turn. -/
theorem witness_FirstErrorIsKeptUntilAckOrReset :
    State.reset.errcode = 0#8 ∧
    (let s : State := { State.reset with errcode := 0x04#8 };
      s.errcode ≠ 0#8 ∧ step s = .next s) ∧
    (let s : State := { State.reset with errcode := 0x04#8, busy := true, latch := some .ack, inputs := [turnSlot] };
      s.errcode ≠ 0#8 ∧ step s = .next { State.reset with done := false }) ∧
    (let s : State := { State.reset with errcode := 0x04#8, inputs := [commandSlot 0x0000000E#32] };
      s.errcode ≠ 0#8 ∧ step s = .next { State.reset with done := false } ∧ decode 0x0000000E#32 = .ok .ack) :=
  ⟨rfl, ⟨by decide, rfl⟩, ⟨by decide, rfl⟩, ⟨by decide, rfl, rfl⟩⟩

/-- IllegalWordIsRejected: BUSY = 0 and the first reserved word; and a state with BUSY = 1. -/
theorem witness_IllegalWordIsRejected :
    (State.reset.busy = false ∧ ∀ i, decode 0x0000000F#32 ≠ .ok i) ∧
      busyReset.busy = true := by
  refine ⟨⟨rfl, fun i h => ?_⟩, rfl⟩
  have e : decode 0x0000000F#32 = .error .reservedOpcode := rfl
  rw [e] at h
  cases h

/-- InterruptIsDoneAndEnabled, AckClearsTheErrorRecord, NopOnlyCompletes: DONE = 0; IE = 1; BUSY = 1. -/
theorem witness_control_flags :
    State.reset.done = false ∧ ({ State.reset with ie := true } : State).ie = true ∧
      busyReset.busy = true := ⟨rfl, rfl, rfl⟩

/-- StatusWordLayout: BUSY = 0 in the reset state, whose bus read of RANK the statement covers. -/
theorem witness_StatusWordLayout : State.reset.busy = false := rfl

/-- StepIsOneSlot: each of its cases; with both a transaction and a turn, an accepted command and a poll of a BUSY = 0
block. -/
theorem witness_StepIsOneSlot :
    (let s : State := { State.reset with inputs := [turnSlot], busy := true, latch := some .nop };
      s.inputs = turnSlot :: [] ∧ s.busy = true ∧ s.latch = some .nop) ∧
    (let s : State := { State.reset with inputs := [turnSlot] };
      s.inputs = turnSlot :: [] ∧ s.busy = false) ∧
    (let s : State := { State.reset with inputs := [⟨.reset, false⟩] };
      s.inputs = ⟨.reset, false⟩ :: []) ∧
    (let u := hostEvent State.reset (.write 0x0004#16 0#32);
      u.busy = true ∧ u.latch = some .nop) ∧
    (hostEvent State.reset (.read 0x0008#16)).busy = false ∧ State.reset.inputs = [] := by
  refine ⟨⟨rfl, rfl, rfl⟩, ⟨rfl, rfl⟩, rfl, ⟨rfl, rfl⟩, rfl, rfl⟩

/-- StepKeepsTheInvariant and MachineNeverStops: a state that meets the invariant, with a GENMAT in flight under way, and
its step. -/
theorem witness_StateInv :
    let s : State := { State.reset with busy := true, latch := some .genmat, cap := 3#32
                                        genmat := some ⟨⟨0#64, 0#64, 0#64, 0#64⟩, 2#32⟩ }
    StateInv s ∧ step s = .next s := by
  refine ⟨⟨rfl, fun _ => rfl, ?_, by decide, fun _ => ⟨rfl, rfl⟩, by decide, fun h => ?_⟩, rfl⟩
  · intro p h
    cases h
    exact ⟨rfl, by decide, fun _ => by decide⟩
  · exact absurd h (by decide)

/-- CommandsComplete: both its cases. -/
theorem witness_CommandsComplete : Instr.ack ≠ .genmat ∧ Instr.genmat = .genmat := by decide

/-- BusyFreezesTheInputs: BUSY = 1 and a write to CTRL that is no soft reset. -/
theorem witness_BusyFreezesTheInputs :
    busyReset.busy = true ∧ HostEvent.write 0x000C#16 1#32 ≠ .reset ∧
      ∀ v, HostEvent.write 0x000C#16 1#32 = .write 0x000C#16 v → v.getLsbD 1 = false := by
  refine ⟨rfl, by decide, fun v h => ?_⟩
  cases h
  decide

/-- PollingIsInvisible: a poll of each open register. -/
theorem witness_PollingIsInvisible :
    ∀ e ∈ [HostEvent.read 0x0000#16, .read 0x0008#16, .read 0x000C#16, .read 0x001C#16, .idle],
      quietEvent e = true := by decide

/-- OnlyItsWriterChangesIt: a command that answers a next state and is in none of the lists of writers. -/
theorem witness_OnlyItsWriterChangesIt :
    exec .nop State.reset = .next (complete State.reset) ∧
      Instr.nop ∉ [Instr.gseed, .gnext, .genmat, .rank, .ack, .mvmul, .oct, .sboxgen, .anti, .chain, .sboxapp, .fold, .cmp,
        .eval] := by
  refine ⟨rfl, ?_⟩
  decide

/-- RankFollowsTheElimination, before column 0 of a matrix: a matrix of zeros has no entry above EPS in the column; one
with a 1 in its first entry has one in the least unselected row. -/
theorem witness_RankFollowsTheElimination :
    Binary64.absAboveEps (Binary64.ofNat (0#4).toNat) = false ∧
      Binary64.absAboveEps (Binary64.ofNat (1#4).toNat) = true ∧ ∀ r : Fin 64, ¬ r < 0 := by
  refine ⟨by decide +kernel, by decide +kernel, fun r => ?_⟩
  exact Fin.not_lt_zero r

/-- A step of the generator from the zero state draws 0 and leaves it. -/
theorem xnext_zero : xnext ⟨0#64, 0#64, 0#64, 0#64⟩ = (0#64, ⟨0#64, 0#64, 0#64, 0#64⟩) := by decide +kernel

/-- The first candidate of a zero SEED has rank 0 (V-GENMAT-3). -/
theorem rank_of_first_zero_candidate : rankOf (candidate (Vector.replicate 32 0#8) 0) = 0 := by
  have words : ∀ n, (drawWords n ⟨0#64, 0#64, 0#64, 0#64⟩).1 = List.replicate n 0#64 := by
    intro n
    induction n with
    | zero => rfl
    | succ n ih => simp only [drawWords, xnext_zero, ih, List.replicate_succ]
  have seed : seedGen (Vector.replicate 32 0#8) = ⟨0#64, 0#64, 0#64, 0#64⟩ := by decide +kernel
  have start : genAfter (Vector.replicate 32 0#8) 0 = ⟨0#64, 0#64, 0#64, 0#64⟩ := seed
  refine rankOf_zero _ fun r q => ?_
  unfold candidate fill
  rw [start]
  have zeros : ∀ (l : List Word64) (n : Nat), (∀ w ∈ l, w = 0#64) → l.getD n 0#64 = 0#64 := by
    intro l n h
    rw [List.getD_eq_getElem?_getD]
    cases e : l[n]? with
    | none => rfl
    | some w => exact h w (List.mem_of_getElem? e)
  simp only [words, matrixOfWords, Fin.getElem_fin, Vector.getElem_ofFn]
  rw [zeros _ _ fun w h => List.eq_of_mem_replicate (List.mem_of_mem_drop (List.mem_of_mem_take h))]
  exact BitVec.extractLsb'_zero

/-- GenmatFollowsTheLoop, with and without an error recorded before: a zero SEED with CAP = 2, after one candidate
that misses rank 64; and with no candidate before. -/
theorem witness_GenmatFollowsTheLoop :
    let s : State := { State.reset with busy := true, latch := some .genmat, cap := 2#32 }
    s.busy = true ∧ s.latch = some .genmat ∧ s.genmat = none ∧
      (1 + 1 < 2 ^ 32 ∧ (∀ j < 1, rankOf (candidate s.seed j) ≠ 64) ∧ (s.cap ≠ 0#32 → 1 < s.cap.toNat)) ∧
      s.errcode = 0#8 ∧ ({ s with errcode := 0x04#8 } : State).errcode ≠ 0#8 ∧
      s.cap.toNat = 1 + 1 ∧ rankOf (candidate s.seed 0) ≠ 64 ∧ ∀ j < 0, rankOf (candidate s.seed j) ≠ 64 := by
  have h := rank_of_first_zero_candidate
  refine ⟨rfl, rfl, rfl, ⟨by decide, fun j hj => ?_, fun _ => by decide⟩, rfl,
    (by decide : (0x04#8 : Byte) ≠ 0#8), rfl, ?_, fun j hj => absurd hj (Nat.not_lt_zero j)⟩
  · obtain rfl : j = 0 := by omega
    show rankOf (candidate (Vector.replicate 32 0#8) 0) ≠ 64
    rw [h]
    decide
  · show rankOf (candidate (Vector.replicate 32 0#8) 0) ≠ 64
    rw [h]
    decide

/-- ZeroSeedGenmatNeverCompletes: reset with a GENMAT accepted; and a soft-reset word. -/
theorem witness_ZeroSeedGenmatNeverCompletes :
    let s : State := { State.reset with busy := true, latch := some .genmat }
    s.busy = true ∧ s.latch = some .genmat ∧ s.genmat = none ∧ s.cap = 0#32 ∧ s.seed = Vector.replicate 32 0#8 ∧
      (0x00000002#32).getLsbD 1 = true := ⟨rfl, rfl, rfl, rfl, rfl, rfl⟩

/-- CapBoundsGenmat: the least and the greatest cap. -/
theorem witness_CapBoundsGenmat :
    (let s : State := { State.reset with busy := true, latch := some .genmat, cap := 1#32 };
      s.busy = true ∧ s.latch = some .genmat ∧ s.genmat = none ∧ s.cap ≠ 0#32) ∧
    (let s : State := { State.reset with busy := true, latch := some .genmat, cap := 0xFFFFFFFF#32 };
      s.busy = true ∧ s.latch = some .genmat ∧ s.genmat = none ∧ s.cap ≠ 0#32) :=
  ⟨⟨rfl, rfl, rfl, by decide⟩, ⟨rfl, rfl, rfl, by decide⟩⟩

/-- BinarySixtyFourConstants: the greatest matrix entry. -/
theorem witness_BinarySixtyFourConstants : 15 ≤ 15 := by decide

/-- BinaryArithmeticRoundsOnce: 1 and −3, and the extremes of the canonical form. -/
theorem witness_BinaryArithmeticRoundsOnce :
    Binary64.canonical (.fin false (2 ^ 52) (-52)) ∧ Binary64.canonical (.fin true (3 * 2 ^ 51) (-51)) ∧ 3 * 2 ^ 51 ≠ 0 ∧
      Binary64.canonical (.fin false 0 (-1074)) ∧ Binary64.canonical (.fin false 1 (-1074)) ∧
      Binary64.canonical (.fin true (2 ^ 53 - 1) 971) := by
  unfold Binary64.canonical Binary64.minExp Binary64.maxExp
  decide

/-- The index of a table: the exclusive or. -/
def xorIndex (i j : Fin 8) : Fin 8 := Fin.ofNat 8 (i.val ^^^ j.val)

/-- The signs of that table: a unit times a later one is positive. -/
def xorNeg (i j : Fin 8) : Bool := decide (i ≠ 0 ∧ j ≠ 0 ∧ j ≤ i)

/-- OctonionTableIsAdmissible: a table that meets the constraints of 42_mixing.md R146. -/
theorem witness_OctonionTableIsAdmissible :
    ∀ i j : Fin 8, xorIndex 0 j = j ∧ xorIndex i 0 = i ∧ xorNeg 0 j = false ∧ xorNeg i 0 = false ∧
      (i ≠ 0 → xorIndex i i = 0 ∧ xorNeg i i = true) ∧
      (i ≠ 0 → j ≠ 0 → i ≠ j → xorIndex i j = xorIndex j i ∧ xorIndex i j ≠ 0 ∧ xorIndex i j ≠ i ∧
        xorIndex i j ≠ j ∧ xorNeg j i = !xorNeg i j) := by
  intro i j
  refine ⟨?_, ?_, ?_, ?_, ?_, ?_⟩ <;> revert i j <;> decide +kernel

/-- OctonionTableIsAdmissible, OctonionUnitLaws: two distinct imaginary units. -/
theorem witness_OctonionUnitLaws : (1 : Fin 8) ≠ 0 ∧ (7 : Fin 8) ≠ 0 ∧ (1 : Fin 8) ≠ 7 := by decide

/-- OctMixesTheFirstEightBytes: round 0 exists in every record, and bytes 8 and 31 lie outside the write-back. -/
theorem witness_OctMixesTheFirstEightBytes :
    0 < octRounds Config.protocolK ∧ 8 ≤ (8 : Fin 32).val ∧ 8 ≤ (31 : Fin 32).val :=
  ⟨Nat.succ_pos _, by decide, by decide⟩

/-- SboxappIsAnInvolution: the reset state's SB is all zero. -/
theorem witness_SboxappIsAnInvolution : State.reset.sb = Vector.replicate 256 0#8 := rfl

end Sys2Proof.Tests
end

section
/-! PROOFS. Polling (00_scope.md R19; 20_memory.md R68): a quiet event leaves nothing but read data, and the next step
discards that. -/

namespace Sys2Proof.Machine

/-- The four addresses a poll reads are mapped, and open while BUSY = 1 (60_exceptions.md R212). -/
theorem locate_of_quiet_read {a : Addr} (h : quietEvent (.read a) = true) :
    ∃ l, locate a = some l ∧ openWhileBusy l = true := by
  simp only [quietEvent, Bool.or_eq_true, beq_iff_eq, or_assoc] at h
  obtain rfl | rfl | rfl | rfl := h
  · exact ⟨.id, by decide⟩
  · exact ⟨.status, by decide⟩
  · exact ⟨.ctrl, by decide⟩
  · exact ⟨.errinfo, by decide⟩

/-- A quiet event changes nothing but the read data. -/
theorem hostEvent_quiet (s : State) {e : HostEvent} (h : quietEvent e = true) :
    ∃ x, hostEvent s e = { s with rdata := x } := by
  cases e with
  | idle => exact ⟨s.rdata, rfl⟩
  | read a =>
    obtain ⟨l, hl, ho⟩ := locate_of_quiet_read h
    obtain ⟨hn, -⟩ | ⟨l', hl', -, hc, -⟩ | ⟨l', -, -, hr⟩ := busRead_cases s a
    · simp [hl] at hn
    · obtain rfl : l = l' := by simpa [hl] using hl'
      simp [ho] at hc
    · exact ⟨_, hr⟩
  | write a v => simp [quietEvent] at h
  | reset => simp [quietEvent] at h

/-- A slot with an event and no turn of the sequencer does what the event does. -/
theorem step_event (s : State) (e : HostEvent) (rest : List Slot) :
    step { s with inputs := ⟨e, false⟩ :: rest } = .next (hostEvent (nextSlot s rest) e) := rfl

/-- A slot with no transaction is a turn of the sequencer. -/
theorem step_turnSlot (s : State) (rest : List Slot) :
    step { s with inputs := turnSlot :: rest } = sequencerTurn (nextSlot s rest) := rfl

/-- A run of one step is a step. -/
theorem runSteps_one (s : State) : runSteps 1 s = step s := by
  cases h : step s with
  | next t => rw [runSteps_succ 0 h, runSteps_zero]
  | fault r => simp [runSteps, h]
  | refused r => simp [runSteps, h]

/-- Polls before a turn of the sequencer, one after the other. -/
theorem runSteps_polls_turn (es : List HostEvent) (rest : List Slot) (hq : ∀ e ∈ es, quietEvent e = true) (s : State) :
    runSteps (es.length + 1) { s with inputs := es.map (fun e => ⟨e, false⟩) ++ turnSlot :: rest } =
      sequencerTurn (nextSlot s rest) := by
  induction es generalizing s with
  | nil => exact runSteps_one _
  | cons e es ih =>
    obtain ⟨x, hx⟩ := hostEvent_quiet (nextSlot s (es.map (fun e => ⟨e, false⟩) ++ turnSlot :: rest))
      (hq e List.mem_cons_self)
    have hfirst := step_event s e (es.map (fun e => ⟨e, false⟩) ++ turnSlot :: rest)
    rw [hx] at hfirst
    exact (runSteps_succ _ hfirst).trans
      (ih (fun e' he => hq e' (List.mem_cons_of_mem e he)) { s with rdata := x })

end Sys2Proof.Machine

open Sys2Proof.Machine in
/-- Settles O28: by induction on the polls, the run comes to the turn that the run without polls takes. -/
theorem pollingIsInvisible : Obligations.PollingIsInvisible := by
  intro s es rest hq
  rw [runSteps_polls_turn es rest hq, runSteps_one, step_turnSlot]

end

section
/-! PROOFS. The hang of GENMAT on a zero SEED (00_scope.md R18; 40_generator.md R115): the generator never leaves the
zero state, every candidate is the zero matrix, and no cap ends the loop. -/

namespace Sys2Proof.Machine

/-- The zero state of the generator, its fixed point (40_generator.md R115). -/
def zeroGen : Gen := ⟨0#64, 0#64, 0#64, 0#64⟩

theorem seedGen_zero : seedGen (Vector.replicate 32 0#8) = zeroGen := by decide +kernel

theorem drawWords_zeroGen (n : Nat) : drawWords n zeroGen = (List.replicate n 0#64, zeroGen) := by
  induction n with
  | zero => rfl
  | succ n ih =>
    have hx : xnext zeroGen = (0#64, zeroGen) := by decide +kernel
    simp only [drawWords, hx, ih, List.replicate_succ]

theorem matrixOfWords_zero (n : Nat) (r p : Fin 64) : (matrixOfWords (List.replicate n 0#64))[r][p] = 0#4 := by
  simp only [matrixOfWords, nibbleOf, Fin.getElem_fin, Vector.getElem_ofFn, List.drop_replicate, List.take_replicate,
    List.getD_eq_getElem?_getD, List.getElem?_replicate]
  split <;> exact BitVec.extractLsb'_zero

theorem fill_zeroGen_state : (fill zeroGen).2 = zeroGen := by
  unfold fill
  rw [drawWords_zeroGen]

/-- Every candidate drawn from the zero state has rank 0. -/
theorem rankOf_fill_zeroGen : rankOf (fill zeroGen).1 = 0 := by
  refine rankOf_zero _ fun r p => ?_
  unfold fill
  rw [drawWords_zeroGen]
  exact matrixOfWords_zero 256 r p

/-- A GENMAT in flight with no cap whose generator stands at the zero state. -/
structure StuckGenmat (s : State) : Prop where
  busy : s.busy = true
  latch : s.latch = some .genmat
  cap : s.cap = 0#32
  gen : (genmatProgress s).gen = zeroGen

/-- Its next turn misses rank 64 and no cap ends it, so only the hidden progress changes, and it stays stuck. -/
theorem StuckGenmat.turn {s : State} (h : StuckGenmat s) :
    ∃ p : GenmatProgress, sequencerTurn s = .next { s with genmat := some p } ∧ p.gen = zeroGen := by
  have hrank : rankOf (genmatCandidate s).1 = 0 := by rw [genmatCandidate, h.gen, rankOf_fill_zeroGen]
  have hgen : (genmatCandidate s).2 = zeroGen := by rw [genmatCandidate, h.gen, fill_zeroGen_state]
  refine ⟨⟨(genmatCandidate s).2, genmatCount s⟩, ?_, hgen⟩
  have hturn : sequencerTurn s = .next (genmatAttempt s) := by simp [sequencerTurn, h.busy, h.latch]
  obtain ⟨h64, -⟩ | ⟨-, hcap, -, -⟩ | ⟨-, -, hgo⟩ := genmatAttempt_cases s
  · simp [hrank] at h64
  · exact absurd h.cap hcap
  · rw [hturn, hgo]

/-- A stuck GENMAT is in flight after any number of turns, and nothing but its hidden progress has changed. -/
theorem StuckGenmat.run (n : Nat) {s : State} (h : StuckGenmat s) :
    ∃ x p, runSteps n { s with inputs := List.replicate n turnSlot } =
      .next { s with inputs := [], rdata := x, genmat := p } := by
  induction n generalizing s with
  | zero => exact ⟨s.rdata, s.genmat, rfl⟩
  | succ n ih =>
    have hslot : StuckGenmat (nextSlot s (List.replicate n turnSlot)) := ⟨h.busy, h.latch, h.cap, h.gen⟩
    obtain ⟨p, hp, hgen⟩ := hslot.turn
    have hnext : StuckGenmat { s with rdata := none, genmat := some p } := ⟨h.busy, h.latch, h.cap, hgen⟩
    obtain ⟨x, p', hrun⟩ := ih hnext
    exact ⟨x, p', (runSteps_succ n ((step_turnSlot s _).trans hp)).trans hrun⟩

/-- A write to CTRL with bit 1 set is the soft reset, whatever BUSY is (70_reset_and_hazards.md R241). -/
theorem busWrite_softReset (s : State) {v : Word32} (h : v.getLsbD 1 = true) :
    busWrite s 0x000C#16 v = resetAll s := by
  have hctrl : locate 0x000C#16 = some .ctrl := by decide
  have hwrite : writeCtrl s v = resetAll s := by
    obtain ⟨-, hr⟩ | ⟨h0, -⟩ := writeCtrl_cases s v
    · exact hr
    · exact absurd (h.symm.trans h0) (by decide)
  simp [busWrite, hctrl, openWhileBusy, readOnly, writeLoc, hwrite]

end Sys2Proof.Machine

open Sys2Proof.Machine in
/-- Settles O42: a GENMAT just accepted on a zero SEED stands at the zero state, so it is stuck. -/
theorem zeroSeedGenmatNeverCompletes : Obligations.ZeroSeedGenmatNeverCompletes := by
  intro s n hbusy hlatch hgenmat hcap hseed
  have hgen : (genmatProgress s).gen = zeroGen := by simp [genmatProgress, hgenmat, hseed, seedGen_zero]
  obtain ⟨x, p, hrun⟩ := StuckGenmat.run n ⟨hbusy, hlatch, hcap, hgen⟩
  refine ⟨_, hrun, rfl, fun v hv => ?_⟩
  rw [busWrite_softReset _ hv, resetAll_busy, reset_busy]

end

section
/-! PROOFS. Rounding of binary64 (00_scope.md R13): a value rounded to the multiples of one power of two is rounded
among all canonical values, and `Binary64.round` does the former. -/

namespace Sys2Proof.Machine

/-! ## Values on the multiples of a power of two -/

theorem two_zpow_pos (a : Int) : (0 : ℚ) < 2 ^ a := zpow_pos two_pos a

theorem two_zpow_le {a b : Int} (h : a ≤ b) : (2 : ℚ) ^ a ≤ 2 ^ b := zpow_le_zpow_right₀ one_le_two h

/-- The sign of a value as a factor. -/
def signFactor (neg : Bool) : ℤ := if neg then -1 else 1

theorem signFactor_mul_emod_two (neg : Bool) (k : ℤ) : signFactor neg * k % 2 = 0 ↔ k % 2 = 0 := by
  cases neg <;> simp [signFactor]

theorem abs_signFactor_mul (neg : Bool) (z : ℚ) : |signFactor neg * z| = |z| := by
  cases neg <;> simp [signFactor]

theorem signFactor_bne (n₁ n₂ : Bool) : signFactor (n₁ != n₂) = signFactor n₁ * signFactor n₂ := by
  cases n₁ <;> cases n₂ <;> rfl

theorem signFactor_inv (neg : Bool) : ((signFactor neg : ℤ) : ℚ)⁻¹ = signFactor neg := by
  cases neg <;> norm_num [signFactor]

/-- The sign of a product with a positive value is the factor's. -/
theorem signFactor_mul_neg_iff (neg : Bool) {z : ℚ} (hz : 0 < z) : neg = true ↔ signFactor neg * z < 0 := by
  cases neg
  · simpa [signFactor] using hz.le
  · simpa [signFactor] using hz

theorem val_fin (neg : Bool) (m : Nat) (e : Int) :
    Binary64.val (.fin neg m e) = signFactor neg * ((m : ℚ) * 2 ^ e) := by
  cases neg <;> simp [Binary64.val, signFactor]

/-- A significand shifted left is one at a lower exponent. -/
theorem shiftLeft_mul_zpow (m : Nat) {f e : Int} (h : f ≤ e) :
    ((m <<< (e - f).toNat : Nat) : ℚ) * 2 ^ f = m * 2 ^ e := by
  have he : e = ((e - f).toNat : Int) + f := by omega
  rw [Nat.shiftLeft_eq, Nat.cast_mul, Nat.cast_pow, Nat.cast_ofNat, mul_assoc, ← zpow_natCast,
    ← zpow_add₀ two_ne_zero, ← he]

/-- A canonical value is a multiple of `2^f` unless it is below every normalized value at that exponent. -/
theorem canonical_multiple_or_small {neg : Bool} {m : Nat} {e : Int} (h : Binary64.canonical (.fin neg m e)) (f : Int) :
    (∃ k : ℤ, Binary64.val (.fin neg m e) = k * 2 ^ f) ∨
      (Binary64.minExp < f ∧ |Binary64.val (.fin neg m e)| < 2 ^ 52 * 2 ^ f) := by
  obtain ⟨hm, hmin, -, -⟩ := h
  rw [val_fin]
  by_cases hf : f ≤ e
  · refine .inl ⟨signFactor neg * (m <<< (e - f).toNat : Nat), ?_⟩
    rw [← shiftLeft_mul_zpow m hf]
    rw [Int.cast_mul, Int.cast_natCast]
    ring
  · refine .inr ⟨by omega, ?_⟩
    rw [abs_signFactor_mul, abs_of_nonneg (by positivity)]
    have hm' : (m : ℚ) < 2 ^ 53 := by exact_mod_cast hm
    calc (m : ℚ) * 2 ^ e < 2 ^ 53 * 2 ^ e := by gcongr
      _ ≤ 2 ^ 53 * 2 ^ (f - 1) :=
        mul_le_mul_of_nonneg_left (two_zpow_le (by omega)) (by positivity)
      _ = 2 ^ 52 * 2 ^ f := by rw [zpow_sub_one₀ two_ne_zero]; ring

/-- The multiple `k · 2^f` is nearest to `z` among the multiples of `2^f`, and an even one of two. -/
structure NearestMultiple (z : ℚ) (k : ℤ) (f : Int) : Prop where
  half_unit : |z - k * 2 ^ f| ≤ 2 ^ f / 2
  tie_even : |z - k * 2 ^ f| = 2 ^ f / 2 → k % 2 = 0

/-- Any other multiple is at least as far, and if as far then both are half a unit away. -/
theorem NearestMultiple.le_of_multiple {z : ℚ} {k : ℤ} {f : Int} (h : NearestMultiple z k f) (j : ℤ) :
    |z - k * 2 ^ f| ≤ |z - j * 2 ^ f| ∧ (|z - k * 2 ^ f| = |z - j * 2 ^ f| → j ≠ k → k % 2 = 0) := by
  by_cases hj : j = k
  · subst hj
    exact ⟨le_rfl, fun _ hne => absurd rfl hne⟩
  · have hunit := two_zpow_pos f
    have hdist : (1 : ℚ) ≤ |(k : ℚ) - j| := by exact_mod_cast Int.one_le_abs (sub_ne_zero.mpr (Ne.symm hj))
    have hapart : (2 : ℚ) ^ f ≤ |z - j * 2 ^ f| + |z - k * 2 ^ f| := by
      calc (2 : ℚ) ^ f ≤ |(k : ℚ) - j| * 2 ^ f := le_mul_of_one_le_left hunit.le hdist
        _ = |(z - j * 2 ^ f) - (z - k * 2 ^ f)| := by rw [← abs_of_pos hunit, ← abs_mul, abs_of_pos hunit]; ring_nf
        _ ≤ _ := abs_sub _ _
    have hhalf := h.half_unit
    exact ⟨by linarith, fun heq _ => h.tie_even (by linarith)⟩

/-- A normalized value is nearer to a nearest multiple of its unit than to anything below the normalized values. -/
theorem NearestMultiple.lt_of_small {z v : ℚ} {k : ℤ} {f : Int} (h : NearestMultiple z k f)
    (hz : 2 ^ 52 * 2 ^ f ≤ |z|) (hv : |v| < 2 ^ 52 * 2 ^ f) : |z - k * 2 ^ f| < |z - v| := by
  have hbound : ∃ j : ℤ, |z - j * 2 ^ f| = |z| - 2 ^ 52 * 2 ^ f := by
    rcases abs_cases z with ⟨habs, -⟩ | ⟨habs, -⟩
    · refine ⟨2 ^ 52, ?_⟩
      rw [habs] at hz ⊢
      rw [Int.cast_pow, Int.cast_ofNat, abs_of_nonneg (by linarith)]
    · refine ⟨-2 ^ 52, ?_⟩
      rw [habs] at hz ⊢
      rw [Int.cast_neg, Int.cast_pow, Int.cast_ofNat, abs_of_nonpos (by linarith)]
      ring
  obtain ⟨j, hj⟩ := hbound
  calc |z - k * 2 ^ f| ≤ |z - j * 2 ^ f| := (h.le_of_multiple j).1
    _ < |z| - |v| := by linarith
    _ ≤ |z - v| := abs_sub_abs_le_abs_sub z v

/-- No canonical value is nearer than a nearest multiple at the exponent of the value rounded. -/
theorem NearestMultiple.le_of_canonical {z : ℚ} {k : ℤ} {f : Int} (h : NearestMultiple z k f)
    (hnorm : f = Binary64.minExp ∨ 2 ^ 52 * 2 ^ f ≤ |z|) {neg : Bool} {m : Nat} {e : Int}
    (hc : Binary64.canonical (.fin neg m e)) :
    |z - k * 2 ^ f| ≤ |z - Binary64.val (.fin neg m e)| ∧
      (|z - k * 2 ^ f| = |z - Binary64.val (.fin neg m e)| → Binary64.val (.fin neg m e) ≠ k * 2 ^ f → k % 2 = 0) := by
  obtain ⟨j, hj⟩ | ⟨hmin, hsmall⟩ := canonical_multiple_or_small hc f
  · rw [hj]
    obtain ⟨hle, heven⟩ := h.le_of_multiple j
    refine ⟨hle, fun heq hne => heven heq ?_⟩
    rintro rfl
    exact hne rfl
  · have hlt := h.lt_of_small (hnorm.resolve_left hmin.ne') hsmall
    exact ⟨hlt.le, fun heq => absurd heq hlt.ne⟩

theorem NearestMultiple.signed {y : ℚ} {k : ℤ} {f : Int} (h : NearestMultiple y k f) (neg : Bool) :
    NearestMultiple (signFactor neg * y) (signFactor neg * k) f := by
  have hdist : |signFactor neg * y - (signFactor neg * k : ℤ) * 2 ^ f| = |y - k * 2 ^ f| := by
    rw [← abs_signFactor_mul neg (y - k * 2 ^ f), Int.cast_mul]
    ring_nf
  refine ⟨hdist ▸ h.half_unit, fun htie => ?_⟩
  exact (signFactor_mul_emod_two neg k).mpr (h.tie_even (hdist ▸ htie))

theorem NearestMultiple.scale {y : ℚ} {k : ℤ} {f : Int} (h : NearestMultiple y k f) (e : Int) :
    NearestMultiple (y * 2 ^ e) k (f + e) := by
  have hunit := two_zpow_pos e
  have hdist : |y * 2 ^ e - k * 2 ^ (f + e)| = |y - k * 2 ^ f| * 2 ^ e := by
    rw [zpow_add₀ two_ne_zero, ← abs_of_pos hunit, ← abs_mul, abs_of_pos hunit]
    ring_nf
  have hhalf : (2 : ℚ) ^ (f + e) / 2 = 2 ^ f / 2 * 2 ^ e := by
    rw [zpow_add₀ two_ne_zero]
    ring
  refine ⟨?_, fun htie => h.tie_even ?_⟩
  · rw [hdist, hhalf]
    exact mul_le_mul_of_nonneg_right h.half_unit hunit.le
  · rw [hdist, hhalf] at htie
    exact mul_right_cancel₀ hunit.ne' htie

/-- A multiple less than half a unit away is nearest. -/
theorem NearestMultiple.of_lt {z : ℚ} {k : ℤ} {f : Int} (h : |z - k * 2 ^ f| < 2 ^ f / 2) : NearestMultiple z k f :=
  ⟨h.le, fun heq => absurd heq h.ne⟩

/-- A multiple is nearest to itself. -/
theorem NearestMultiple.self (k : ℤ) (f : Int) : NearestMultiple (k * 2 ^ f) k f := by
  refine .of_lt ?_
  rw [sub_self, abs_zero]
  positivity

/-! ## The result of a rounding -/

/-- A canonical value on a nearest multiple is the rounded value, if it is not an overflow. -/
theorem isRounded_fin {z : ℚ} {k : ℤ} {f : Int} {neg : Bool} {m : Nat} {e : Int} (h : NearestMultiple z k f)
    (hnorm : f = Binary64.minExp ∨ 2 ^ 52 * 2 ^ f ≤ |z|) (hc : Binary64.canonical (.fin neg m e))
    (hval : Binary64.val (.fin neg m e) = k * 2 ^ f) (heven : k % 2 = 0 → m % 2 = 0)
    (hrange : |z| < ((2 : ℚ) ^ 53 - 1 / 2) * 2 ^ (971 : ℤ)) (hsign : z ≠ 0 → (neg = true ↔ z < 0)) :
    IsRounded z (.fin neg m e) := by
  refine ⟨hrange, hsign, hc, fun n' m' e' hc' => ?_⟩
  rw [hval]
  obtain ⟨hle, htie⟩ := h.le_of_canonical hnorm hc'
  exact ⟨hle, fun heq hne => heven (htie heq hne)⟩

/-- A zero of either sign is the rounding of 0. -/
theorem isRounded_zero (neg : Bool) : IsRounded 0 (.fin neg 0 Binary64.minExp) := by
  have hc : Binary64.canonical (.fin neg 0 Binary64.minExp) := by
    simp [Binary64.canonical, Binary64.minExp, Binary64.maxExp]
  have h := NearestMultiple.self 0 Binary64.minExp
  rw [Int.cast_zero, zero_mul] at h
  refine isRounded_fin h (.inl rfl) hc (by simp [Binary64.val]) (fun _ => rfl) ?_ (fun h0 => absurd rfl h0)
  rw [abs_zero]
  exact mul_pos (by norm_num) (by positivity)

/-- Above the greatest exponent every normalized value is an overflow. -/
theorem overflow_le_normalized {f : Int} (h : Binary64.maxExp < f) :
    ((2 : ℚ) ^ 53 - 1 / 2) * 2 ^ (971 : ℤ) ≤ 2 ^ 52 * 2 ^ f := by
  have h972 := two_zpow_le (show 971 + 1 ≤ f from h)
  have hunit := two_zpow_pos 971
  rw [zpow_add_one₀ two_ne_zero] at h972
  generalize (2 : ℚ) ^ (971 : ℤ) = u at *
  linarith

/-- Below the greatest exponent no value is. -/
theorem lt_overflow {f : Int} (h : f + 1 ≤ Binary64.maxExp) :
    2 ^ 53 * 2 ^ f < ((2 : ℚ) ^ 53 - 1 / 2) * 2 ^ (971 : ℤ) := by
  have h971 := two_zpow_le (show f + 1 ≤ 971 from h)
  have hunit := two_zpow_pos 971
  rw [zpow_add_one₀ two_ne_zero] at h971
  generalize (2 : ℚ) ^ (971 : ℤ) = u at *
  linarith

theorem pack_overflow {neg : Bool} {m : Nat} {e : Int} (h : Binary64.maxExp < e) : Binary64.pack neg m e = .inf neg :=
  if_pos h

theorem pack_finite {neg : Bool} {m : Nat} {e : Int} (h : e ≤ Binary64.maxExp) : Binary64.pack neg m e = .fin neg m e :=
  if_neg h.not_gt

/-- A rounded significand at exponent `f`, renormalized if rounding carried it to `2^53`: how `Binary64.round` ends. -/
def packRounded (neg : Bool) (q : Nat) (f : Int) : Binary64 :=
  if q = 2 ^ 53 then Binary64.pack neg (2 ^ 52) (f + 1) else Binary64.pack neg q f

/-- What the significand rounded at exponent `f` satisfies, for a positive value `y` whose leading bit, unless `f` is
the least exponent, is bit 52 at that exponent. -/
structure RoundedAt (y : ℚ) (q : Nat) (f : Int) : Prop where
  nearest : NearestMultiple y q f
  min_le : Binary64.minExp ≤ f
  lt_unit : y < 2 ^ 53 * 2 ^ f
  normalized : f = Binary64.minExp ∨ 2 ^ 52 * 2 ^ f ≤ y

section
variable {y : ℚ} {q : Nat} {f : Int}

theorem RoundedAt.abs_le (h : RoundedAt y q f) : |y - q * 2 ^ f| ≤ 2 ^ f / 2 := by
  simpa using h.nearest.half_unit

theorem RoundedAt.le (h : RoundedAt y q f) : q ≤ 2 ^ 53 := by
  have hunit := two_zpow_pos f
  have hq : (q : ℚ) * 2 ^ f < (2 ^ 53 + 1) * 2 ^ f := by linarith [(abs_sub_le_iff.mp h.abs_le).2, h.lt_unit]
  have : (q : ℚ) < 2 ^ 53 + 1 := lt_of_mul_lt_mul_right hq hunit.le
  exact Nat.lt_succ_iff.mp (by exact_mod_cast this)

theorem RoundedAt.normalized_le (h : RoundedAt y q f) : 2 ^ 52 ≤ q ∨ f = Binary64.minExp := by
  refine h.normalized.symm.imp_left fun hn => ?_
  have hunit := two_zpow_pos f
  have hq : (2 ^ 52 : ℚ) * 2 ^ f < (q + 1) * 2 ^ f := by linarith [(abs_sub_le_iff.mp h.abs_le).1]
  have : (2 ^ 52 : ℚ) < q + 1 := lt_of_mul_lt_mul_right hq hunit.le
  exact Nat.lt_succ_iff.mp (by exact_mod_cast this)

/-- Without a carry the value is below the last half unit before `2^53`: the tie there goes up. -/
theorem RoundedAt.lt_of_no_carry (h : RoundedAt y q f) (hq : q ≠ 2 ^ 53) : y < ((2 : ℚ) ^ 53 - 1 / 2) * 2 ^ f := by
  have hunit := two_zpow_pos f
  have hup := (abs_sub_le_iff.mp h.abs_le).1
  have hle : q ≤ 2 ^ 53 - 1 := by have := h.le; omega
  have hlast : (q : ℚ) * 2 ^ f ≤ (2 ^ 53 - 1) * 2 ^ f := by
    have : (q : ℚ) ≤ ((2 ^ 53 - 1 : Nat) : ℚ) := by exact_mod_cast hle
    rw [Nat.cast_sub (by norm_num)] at this
    exact mul_le_mul_of_nonneg_right (by exact_mod_cast this) hunit.le
  refine lt_of_le_of_ne (by linarith) fun heq => ?_
  have hodd : (q : ℚ) * 2 ^ f = (2 ^ 53 - 1) * 2 ^ f := by linarith
  have htie := h.nearest.tie_even (by
    rw [Int.cast_natCast, hodd, heq, abs_of_nonneg (by linarith)]
    ring)
  have hqv : q = 2 ^ 53 - 1 := by
    have : (q : ℚ) = ((2 ^ 53 - 1 : Nat) : ℚ) := by
      rw [mul_right_cancel₀ hunit.ne' hodd]
      norm_num
    exact_mod_cast this
  omega

/-- With a carry it is at or above that half unit. -/
theorem RoundedAt.le_of_carry (h : RoundedAt y (2 ^ 53) f) : ((2 : ℚ) ^ 53 - 1 / 2) * 2 ^ f ≤ y := by
  have := (abs_sub_le_iff.mp h.abs_le).2
  push_cast at this
  linarith

/-- A rounded significand without a carry is a canonical value, or an overflow. -/
theorem RoundedAt.isRounded_of_no_carry (h : RoundedAt y q f) (hy : 0 < y) (neg : Bool) (hcarry : q ≠ 2 ^ 53) :
    IsRounded (signFactor neg * y) (Binary64.pack neg q f) := by
  have habs : |signFactor neg * y| = y := by rw [abs_signFactor_mul, abs_of_pos hy]
  rcases lt_or_ge Binary64.maxExp f with hover | hmax
  · rw [pack_overflow hover]
    refine ⟨?_, signFactor_mul_neg_iff neg hy⟩
    have hlow := h.normalized.resolve_left (fun he => by subst he; exact absurd hover (by decide))
    rw [habs]
    exact (overflow_le_normalized hover).trans hlow
  · rw [pack_finite hmax]
    have hlt : q < 2 ^ 53 := lt_of_le_of_ne h.le hcarry
    refine isRounded_fin (h.nearest.signed neg) (by rw [habs]; exact h.normalized)
      ⟨hlt, h.min_le, hmax, h.normalized_le⟩ ?_ ?_ ?_ fun _ => signFactor_mul_neg_iff neg hy
    · rw [val_fin, Int.cast_mul, Int.cast_natCast, mul_assoc]
    · intro heven
      have := (signFactor_mul_emod_two neg q).mp heven
      omega
    · rw [habs]
      exact (h.lt_of_no_carry hcarry).trans_le (mul_le_mul_of_nonneg_left (two_zpow_le hmax) (by norm_num))

/-- A carry out of the significand gives the least normalized value one exponent up, or an overflow. -/
theorem RoundedAt.isRounded_of_carry (h : RoundedAt y (2 ^ 53) f) (hy : 0 < y) (neg : Bool) :
    IsRounded (signFactor neg * y) (Binary64.pack neg (2 ^ 52) (f + 1)) := by
  have habs : |signFactor neg * y| = y := by rw [abs_signFactor_mul, abs_of_pos hy]
  rcases lt_or_ge Binary64.maxExp (f + 1) with hover | hmax
  · rw [pack_overflow hover]
    refine ⟨?_, signFactor_mul_neg_iff neg hy⟩
    rw [habs]
    exact le_trans (mul_le_mul_of_nonneg_left (two_zpow_le (Int.lt_add_one_iff.mp hover)) (by norm_num)) h.le_of_carry
  · rw [pack_finite hmax]
    refine isRounded_fin (h.nearest.signed neg) (by rw [habs]; exact h.normalized)
      ⟨by norm_num, h.min_le.trans (Int.le_add_one le_rfl), hmax, .inl le_rfl⟩ ?_ (fun _ => by norm_num) ?_
      fun _ => signFactor_mul_neg_iff neg hy
    · rw [val_fin, zpow_add_one₀ two_ne_zero]
      push_cast
      ring
    · rw [habs]
      exact h.lt_unit.trans (lt_overflow hmax)

/-- A rounded significand, packed, is the rounding of the value with either sign. -/
theorem RoundedAt.isRounded_packRounded (h : RoundedAt y q f) (hy : 0 < y) (neg : Bool) :
    IsRounded (signFactor neg * y) (packRounded neg q f) := by
  by_cases hcarry : q = 2 ^ 53
  · rw [packRounded, if_pos hcarry]
    exact (hcarry ▸ h).isRounded_of_carry hy neg
  · rw [packRounded, if_neg hcarry]
    exact h.isRounded_of_no_carry hy neg hcarry

end

/-! ## `Binary64.round` -/

/-- The exponent `Binary64.round` rounds at: bit 52 of the significand there is the leading bit, unless the value is
subnormal. -/
def roundExp (m : Nat) (e : Int) : Int := max (e + (Nat.log2 m + 1 : Nat) - 53) Binary64.minExp

/-- The significand with its low `sh` bits cut off, and one more if they and the sticky bit are above a half, or a half
and the significand odd. -/
def cutSignificand (m sh : Nat) (sticky : Bool) : Nat :=
  if decide (2 ^ (sh - 1) < m % 2 ^ sh) || (m % 2 ^ sh == 2 ^ (sh - 1) && (sticky || (m >>> sh) % 2 == 1)) then
    m >>> sh + 1
  else m >>> sh

theorem round_zero (neg : Bool) (e : Int) (sticky : Bool) :
    Binary64.round neg 0 e sticky = .fin neg 0 Binary64.minExp := rfl

/-- A significand of at most 53 bits at an exponent that is not too low is not cut. -/
theorem round_exact {m : Nat} (hm : m ≠ 0) (neg : Bool) {e : Int} (sticky : Bool) (h : roundExp m e ≤ e) :
    Binary64.round neg m e sticky = Binary64.pack neg (m <<< (e - roundExp m e).toNat) (roundExp m e) := by
  exact (if_neg hm).trans (if_pos h)

/-- A longer one is cut. -/
theorem round_cut {m : Nat} (hm : m ≠ 0) (neg : Bool) {e : Int} (sticky : Bool) (h : e < roundExp m e) :
    Binary64.round neg m e sticky =
      packRounded neg (cutSignificand m (roundExp m e - e).toNat sticky) (roundExp m e) := by
  exact (if_neg hm).trans (if_neg h.not_ge)

theorem cutSignificand_below {m sh : Nat} (sticky : Bool) (h : m % 2 ^ sh < 2 ^ (sh - 1)) :
    cutSignificand m sh sticky = m / 2 ^ sh := by
  simp [cutSignificand, h.not_gt, h.ne, Nat.shiftRight_eq_div_pow]

theorem cutSignificand_above {m sh : Nat} (sticky : Bool) (h : 2 ^ (sh - 1) < m % 2 ^ sh) :
    cutSignificand m sh sticky = m / 2 ^ sh + 1 := by
  simp [cutSignificand, h, Nat.shiftRight_eq_div_pow]

theorem cutSignificand_half {m sh : Nat} (sticky : Bool) (h : m % 2 ^ sh = 2 ^ (sh - 1)) :
    cutSignificand m sh sticky = if sticky = true ∨ m / 2 ^ sh % 2 = 1 then m / 2 ^ sh + 1 else m / 2 ^ sh := by
  simp [cutSignificand, h, Nat.shiftRight_eq_div_pow]

/-- The unit of a cut is twice the half it is compared with. -/
theorem two_pow_eq_two_mul_half {sh : Nat} (hsh : 0 < sh) : 2 ^ sh = 2 * 2 ^ (sh - 1) := by
  rw [← pow_succ', Nat.sub_add_cancel hsh]

theorem two_zpow_eq_two_mul_half {sh : Nat} (hsh : 0 < sh) : (2 : ℚ) ^ (sh : Int) = 2 * (2 ^ (sh - 1) : Nat) := by
  rw [zpow_natCast]
  exact_mod_cast two_pow_eq_two_mul_half hsh

/-- A significand is the part kept, in units of the cut, and the part cut off. -/
theorem cut_decomposition (m : Nat) {sh : Nat} (hsh : 0 < sh) :
    (m : ℚ) = (m / 2 ^ sh : Nat) * (2 * (2 ^ (sh - 1) : Nat)) + (m % 2 ^ sh : Nat) := by
  have := Nat.div_add_mod' m (2 ^ sh)
  rw [← two_zpow_eq_two_mul_half hsh, zpow_natCast]
  exact_mod_cast this.symm

section
variable {m sh : Nat} {sticky : Bool} {δ : ℚ}

/-- The half-way case: any fraction below goes up, and a tie goes to the even significand. -/
theorem cutSignificand_nearest_of_half (hsh : 0 < sh) (h0 : 0 ≤ δ) (h1 : δ < 1) (hs : sticky = true ↔ δ ≠ 0)
    (hrest : m % 2 ^ sh = 2 ^ (sh - 1)) : NearestMultiple (m + δ) (cutSignificand m sh sticky) sh := by
  have hhalf : (1 : ℚ) ≤ (2 ^ (sh - 1) : Nat) := by exact_mod_cast Nat.one_le_two_pow
  have hunit := two_zpow_eq_two_mul_half hsh
  have hdiv := cut_decomposition m hsh
  rw [hrest] at hdiv
  rw [cutSignificand_half sticky hrest]
  split_ifs with hup
  · have hdist : |(m : ℚ) + δ - ((m / 2 ^ sh + 1 : Nat) : ℤ) * 2 ^ (sh : Int)| = (2 ^ (sh - 1) : Nat) - δ := by
      rw [hunit, hdiv, Int.cast_natCast, Nat.cast_succ, abs_of_nonpos (by linarith)]
      ring
    refine ⟨by rw [hdist, hunit]; linarith, fun htie => ?_⟩
    rw [hdist, hunit] at htie
    have hodd := hup.resolve_left fun hst => hs.mp hst (by linarith)
    omega
  · obtain ⟨hst, heven⟩ := not_or.mp hup
    have hδ : δ = 0 := not_not.mp fun hne => hst (hs.mpr hne)
    have hdist : |(m : ℚ) + δ - ((m / 2 ^ sh : Nat) : ℤ) * 2 ^ (sh : Int)| = (2 ^ (sh - 1) : Nat) := by
      rw [hunit, hdiv, hδ, Int.cast_natCast, abs_of_nonneg (by linarith)]
      ring
    exact ⟨by rw [hdist, hunit]; linarith, fun _ => by omega⟩

/-- Cutting with the sticky bit for a fraction `δ` below the significand rounds `m + δ` to a multiple of `2^sh`. -/
theorem cutSignificand_nearest (hsh : 0 < sh) (h0 : 0 ≤ δ) (h1 : δ < 1) (hs : sticky = true ↔ δ ≠ 0) :
    NearestMultiple (m + δ) (cutSignificand m sh sticky) sh := by
  have hunit := two_zpow_eq_two_mul_half hsh
  have hdiv := cut_decomposition m hsh
  rcases lt_trichotomy (m % 2 ^ sh) (2 ^ (sh - 1)) with hlt | heq | hgt
  · have hbelow : ((m % 2 ^ sh : Nat) : ℚ) + 1 ≤ (2 ^ (sh - 1) : Nat) := by exact_mod_cast hlt
    have hnonneg : (0 : ℚ) ≤ (m % 2 ^ sh : Nat) := Nat.cast_nonneg _
    refine .of_lt ?_
    rw [cutSignificand_below sticky hlt, Int.cast_natCast, hunit, hdiv, abs_lt]
    constructor <;> linarith
  · exact cutSignificand_nearest_of_half hsh h0 h1 hs heq
  · have habove : ((2 ^ (sh - 1) : Nat) : ℚ) + 1 ≤ (m % 2 ^ sh : Nat) := by exact_mod_cast hgt
    have hrest : ((m % 2 ^ sh : Nat) : ℚ) + 1 ≤ 2 * (2 ^ (sh - 1) : Nat) := by
      have : m % 2 ^ sh + 1 ≤ 2 * 2 ^ (sh - 1) := two_pow_eq_two_mul_half hsh ▸ Nat.mod_lt m (by positivity)
      exact_mod_cast this
    refine .of_lt ?_
    rw [cutSignificand_above sticky hgt, Int.cast_natCast, Nat.cast_succ, hunit, hdiv, abs_lt]
    constructor <;> linarith

end

/-- The leading bit of a significand with a fraction below it, at the exponent rounded at. -/
theorem roundExp_bounds {m : Nat} (hm : m ≠ 0) (e : Int) {δ : ℚ} (h0 : 0 ≤ δ) (h1 : δ < 1) :
    (m + δ) * 2 ^ e < 2 ^ 53 * 2 ^ roundExp m e ∧
      (roundExp m e = Binary64.minExp ∨ 2 ^ 52 * 2 ^ roundExp m e ≤ (m + δ) * 2 ^ e) := by
  have hunit := two_zpow_pos e
  have hhigh : (m : ℚ) + 1 ≤ 2 ^ (Nat.log2 m + 1) := by exact_mod_cast Nat.lt_log2_self (n := m)
  have hlow : (2 : ℚ) ^ Nat.log2 m ≤ m := by exact_mod_cast Nat.log2_self_le hm
  constructor
  · calc (m + δ) * 2 ^ e < 2 ^ (Nat.log2 m + 1) * 2 ^ e := mul_lt_mul_of_pos_right (by linarith) hunit
      _ = 2 ^ (((Nat.log2 m + 1 : Nat) : Int) + e) := by rw [zpow_add₀ two_ne_zero, zpow_natCast]
      _ ≤ 2 ^ (53 + roundExp m e) := two_zpow_le (by unfold roundExp; omega)
      _ = 2 ^ 53 * 2 ^ roundExp m e := by rw [zpow_add₀ two_ne_zero]; rfl
  · refine (max_choice (e + (Nat.log2 m + 1 : Nat) - 53) Binary64.minExp).symm.imp id fun hmax => ?_
    calc (2 : ℚ) ^ 52 * 2 ^ roundExp m e = 2 ^ (52 + roundExp m e) := by rw [zpow_add₀ two_ne_zero]; rfl
      _ = 2 ^ ((Nat.log2 m : Int) + e) := by
        congr 1
        rw [roundExp, hmax]
        omega
      _ = 2 ^ Nat.log2 m * 2 ^ e := by rw [zpow_add₀ two_ne_zero, zpow_natCast]
      _ ≤ (m + δ) * 2 ^ e := mul_le_mul_of_nonneg_right (by linarith) hunit.le

theorem minExp_le_roundExp (m : Nat) (e : Int) : Binary64.minExp ≤ roundExp m e := le_max_right _ _

/-- A significand that is not cut has at most 53 bits at the exponent rounded at. -/
theorem shiftLeft_roundExp_lt {m : Nat} (hm : m ≠ 0) {e : Int} (h : roundExp m e ≤ e) :
    m <<< (e - roundExp m e).toNat < 2 ^ 53 := by
  have hlt := (roundExp_bounds hm e le_rfl one_pos).1
  rw [add_zero, ← shiftLeft_mul_zpow m h] at hlt
  have := lt_of_mul_lt_mul_right hlt (two_zpow_pos _).le
  exact_mod_cast this

/-- A significand of at least 54 bits is cut. -/
theorem lt_roundExp {m : Nat} (hm : 2 ^ 53 ≤ m) (e : Int) : e < roundExp m e := by
  have hlog : 53 ≤ Nat.log2 m := (Nat.le_log2 (by omega)).mpr hm
  refine lt_of_lt_of_le ?_ (le_max_left _ _)
  omega

/-- `Binary64.round` rounds `±(m + δ) · 2^e` once, to nearest, ties to even, for a fraction `δ` that is not 0 exactly
if the sticky bit is set; then `m` must be long enough to be cut. -/
theorem isRounded_round (neg : Bool) (m : Nat) (e : Int) {sticky : Bool} {δ : ℚ} (h0 : 0 ≤ δ) (h1 : δ < 1)
    (hs : sticky = true ↔ δ ≠ 0) (hbits : sticky = true → 2 ^ 53 ≤ m) :
    IsRounded (signFactor neg * ((m + δ) * 2 ^ e)) (Binary64.round neg m e sticky) := by
  have hexact : sticky = false → δ = 0 := fun hst => by
    by_contra hne
    simp [hst, hne] at hs
  rcases Nat.eq_zero_or_pos m with rfl | hpos
  · have hst : sticky = false := Bool.eq_false_iff.mpr fun hst => by simpa using hbits hst
    rw [round_zero, hexact hst, Nat.cast_zero, add_zero, zero_mul, mul_zero]
    exact isRounded_zero neg
  have hm : m ≠ 0 := hpos.ne'
  have hm1 : (1 : ℚ) ≤ m := by exact_mod_cast hpos
  have hy : 0 < (m + δ) * 2 ^ e := mul_pos (by linarith) (two_zpow_pos e)
  obtain ⟨hlt, hnorm⟩ := roundExp_bounds hm e h0 h1
  rcases le_or_gt (roundExp m e) e with hle | hcut
  · have hst : sticky = false := Bool.eq_false_iff.mpr fun hst => (lt_roundExp (hbits hst) e).not_ge hle
    have hval : (m + δ) * 2 ^ e = ((m <<< (e - roundExp m e).toNat : Nat) : ℤ) * 2 ^ roundExp m e := by
      rw [hexact hst, add_zero, Int.cast_natCast, shiftLeft_mul_zpow m hle]
    have hat : RoundedAt ((m + δ) * 2 ^ e) (m <<< (e - roundExp m e).toNat) (roundExp m e) :=
      ⟨hval ▸ .self _ _, minExp_le_roundExp m e, hlt, hnorm⟩
    rw [round_exact hm neg sticky hle]
    exact hat.isRounded_of_no_carry hy neg (shiftLeft_roundExp_lt hm hle).ne
  · have hsh : (((roundExp m e - e).toNat : Nat) : Int) + e = roundExp m e := by omega
    have hnear := (cutSignificand_nearest (m := m) (sh := (roundExp m e - e).toNat) (by omega) h0 h1 hs).scale e
    rw [hsh] at hnear
    rw [round_cut hm neg sticky hcut]
    exact RoundedAt.isRounded_packRounded ⟨hnear, minExp_le_roundExp m e, hlt, hnorm⟩ hy neg

/-- With nothing below the significand. -/
theorem isRounded_round_exact (neg : Bool) (m : Nat) (e : Int) :
    IsRounded (signFactor neg * (m * 2 ^ e)) (Binary64.round neg m e false) := by
  have h := isRounded_round neg m e (sticky := false) le_rfl one_pos (by simp) (by simp)
  rwa [add_zero] at h

/-! ## The operations -/

/-- The product of finite values is the exact one rounded. -/
theorem isRounded_mul (b₁ b₂ : Bool) (m₁ m₂ : Nat) (e₁ e₂ : Int) :
    IsRounded (Binary64.val (.fin b₁ m₁ e₁) * Binary64.val (.fin b₂ m₂ e₂))
      (Binary64.mul (.fin b₁ m₁ e₁) (.fin b₂ m₂ e₂)) := by
  have hval : Binary64.val (.fin b₁ m₁ e₁) * Binary64.val (.fin b₂ m₂ e₂) =
      signFactor (b₁ != b₂) * ((m₁ * m₂ : Nat) * 2 ^ (e₁ + e₂)) := by
    rw [val_fin, val_fin, signFactor_bne, zpow_add₀ two_ne_zero]
    push_cast
    ring
  rw [hval]
  exact isRounded_round_exact _ _ _

theorem alignedInt_eq (neg : Bool) (m sh : Nat) :
    Binary64.alignedInt neg m sh = signFactor neg * (m <<< sh : Nat) := by
  cases neg <;> simp [Binary64.alignedInt, signFactor]

/-- The signed significand of a value at a lower exponent. -/
theorem alignedInt_mul_zpow (neg : Bool) (m : Nat) {f e : Int} (h : f ≤ e) :
    (Binary64.alignedInt neg m (e - f).toNat : ℚ) * 2 ^ f = Binary64.val (.fin neg m e) := by
  rw [alignedInt_eq, Int.cast_mul, Int.cast_natCast, mul_assoc, shiftLeft_mul_zpow m h, val_fin]

theorem signFactor_decide_neg (v : ℤ) : signFactor (decide (v < 0)) * (v.natAbs : ℤ) = v := by
  by_cases h : v < 0 <;> simp only [signFactor, h, decide_true, decide_false, if_true, Bool.false_eq_true, if_false] <;>
    omega

/-- The difference of finite values is the exact one rounded. -/
theorem isRounded_sub (b₁ b₂ : Bool) (m₁ m₂ : Nat) (e₁ e₂ : Int) :
    IsRounded (Binary64.val (.fin b₁ m₁ e₁) - Binary64.val (.fin b₂ m₂ e₂))
      (Binary64.sub (.fin b₁ m₁ e₁) (.fin b₂ m₂ e₂)) := by
  rw [← alignedInt_mul_zpow b₁ m₁ (min_le_left e₁ e₂), ← alignedInt_mul_zpow b₂ m₂ (min_le_right e₁ e₂), ← sub_mul,
    ← Int.cast_sub]
  simp only [Binary64.sub]
  generalize Binary64.alignedInt b₁ m₁ (e₁ - min e₁ e₂).toNat - Binary64.alignedInt b₂ m₂ (e₂ - min e₁ e₂).toNat = v
  split_ifs with hv
  · rw [hv, Int.cast_zero, zero_mul]
    exact isRounded_zero _
  · have h := isRounded_round_exact (decide (v < 0)) v.natAbs (min e₁ e₂)
    rwa [← mul_assoc, ← Int.cast_natCast, ← Int.cast_mul, signFactor_decide_neg] at h

/-- The quotient of significands to 110 places: the integer part, and a fraction below 1. -/
theorem quotient_decomposition (m₁ : Nat) {m₂ : Nat} (h : m₂ ≠ 0) (e₁ e₂ : Int) :
    (((m₁ <<< 110 / m₂ : Nat) : ℚ) + (m₁ <<< 110 % m₂ : Nat) / m₂) * 2 ^ (e₁ - 110 - e₂) =
      m₁ * 2 ^ e₁ / (m₂ * 2 ^ e₂) := by
  have hm : (m₂ : ℚ) ≠ 0 := by exact_mod_cast h
  have hdiv : ((m₁ <<< 110 / m₂ : Nat) : ℚ) + (m₁ <<< 110 % m₂ : Nat) / m₂ = (m₁ * 2 ^ 110 : Nat) / m₂ := by
    rw [eq_div_iff hm, add_mul, div_mul_cancel₀ _ hm, ← Nat.shiftLeft_eq]
    exact_mod_cast Nat.div_add_mod' (m₁ <<< 110) m₂
  rw [hdiv, zpow_sub₀ two_ne_zero, zpow_sub₀ two_ne_zero]
  have he := (two_zpow_pos e₂).ne'
  push_cast
  field_simp

/-- The sticky bit of a division says that the fraction is not 0. -/
theorem remainder_ne_zero_iff {r m₂ : Nat} (h : m₂ ≠ 0) : (r != 0) = true ↔ (r : ℚ) / m₂ ≠ 0 := by
  simp [h]

/-- The quotient of finite values by one that is not 0 is the exact one rounded. -/
theorem isRounded_div (b₁ b₂ : Bool) (m₁ : Nat) {m₂ : Nat} (e₁ e₂ : Int) (h : m₂ ≠ 0) (hlt : m₂ < 2 ^ 53) :
    IsRounded (Binary64.val (.fin b₁ m₁ e₁) / Binary64.val (.fin b₂ m₂ e₂))
      (Binary64.div (.fin b₁ m₁ e₁) (.fin b₂ m₂ e₂)) := by
  have hpos : (0 : ℚ) < m₂ := by exact_mod_cast Nat.pos_of_ne_zero h
  have hval : Binary64.val (.fin b₁ m₁ e₁) / Binary64.val (.fin b₂ m₂ e₂) = signFactor (b₁ != b₂) *
      (((m₁ <<< 110 / m₂ : Nat) + ((m₁ <<< 110 % m₂ : Nat) : ℚ) / m₂) * 2 ^ (e₁ - 110 - e₂)) := by
    rw [val_fin, val_fin, signFactor_bne, quotient_decomposition m₁ h, mul_div_mul_comm, div_eq_mul_inv (_ : ℚ),
      signFactor_inv, Int.cast_mul]
  have hrem : m₁ <<< 110 % m₂ < m₂ := Nat.mod_lt _ (Nat.pos_of_ne_zero h)
  rw [hval]
  simp only [Binary64.div, if_neg h]
  refine isRounded_round _ _ _ (div_nonneg (Nat.cast_nonneg _) hpos.le) ?_ (remainder_ne_zero_iff h) fun hst => ?_
  · rw [div_lt_one hpos]
    exact_mod_cast hrem
  · have hm₁ : m₁ ≠ 0 := by
      rintro rfl
      simp at hst
    rw [Nat.le_div_iff_mul_le (Nat.pos_of_ne_zero h), Nat.shiftLeft_eq]
    calc 2 ^ 53 * m₂ ≤ 2 ^ 53 * 2 ^ 53 := Nat.mul_le_mul_left _ hlt.le
      _ ≤ 1 * 2 ^ 110 := by norm_num
      _ ≤ m₁ * 2 ^ 110 := Nat.mul_le_mul_right _ (Nat.pos_of_ne_zero hm₁)

/-! ## The constants -/

/-- `f64(n)` is exact below `2^53`. -/
theorem val_ofNat {n : Nat} (h : n < 2 ^ 53) :
    Binary64.val (Binary64.ofNat n) = n ∧ Binary64.canonical (Binary64.ofNat n) := by
  rcases Nat.eq_zero_or_pos n with rfl | hpos
  · exact ⟨by simp [Binary64.ofNat, round_zero, Binary64.val],
      by simp [Binary64.ofNat, round_zero, Binary64.canonical, Binary64.minExp, Binary64.maxExp]⟩
  · have hlog : Nat.log2 n < 53 := (Nat.log2_lt hpos.ne').mpr h
    have hexp : roundExp n 0 ≤ 0 := by
      simp only [roundExp, Binary64.minExp]
      omega
    have hr : Binary64.ofNat n = .fin false (n <<< (0 - roundExp n 0).toNat) (roundExp n 0) := by
      rw [Binary64.ofNat, round_exact hpos.ne' false false hexp,
        pack_finite (hexp.trans (by decide))]
    have hval : Binary64.val (Binary64.ofNat n) = n := by
      rw [hr, val_fin, shiftLeft_mul_zpow n hexp]
      simp [signFactor]
    have hround := isRounded_round_exact false n 0
    change IsRounded _ (Binary64.ofNat n) at hround
    rw [hr] at hround
    exact ⟨hval, hr ▸ hround.2.2.1⟩

/-- `EPS` is 1e-9 rounded: its significand is within half a unit of 1e-9 at exponent −82. -/
theorem isRounded_eps : IsRounded (1 / 1000000000) (.fin false Binary64.epsMant Binary64.epsExp) := by
  have hnear : NearestMultiple (1 / 1000000000) Binary64.epsMant Binary64.epsExp :=
    .of_lt (by norm_num [Binary64.epsMant, Binary64.epsExp, abs_lt])
  have hat : RoundedAt (1 / 1000000000) Binary64.epsMant Binary64.epsExp :=
    ⟨hnear, by decide, by norm_num [Binary64.epsExp], .inr (by norm_num [Binary64.epsExp])⟩
  have h := hat.isRounded_of_no_carry (by norm_num) false (by decide)
  rwa [pack_finite (by decide), show ((signFactor false : ℤ) : ℚ) = 1 from Int.cast_one, one_mul] at h

/-- The magnitude test compares the values. -/
theorem absAboveEps_iff (b : Bool) (m : Nat) (e : Int) : Binary64.absAboveEps (.fin b m e) = true ↔
    Binary64.val (.fin false Binary64.epsMant Binary64.epsExp) < |Binary64.val (.fin b m e)| := by
  have hmag : ∀ (n : Bool) (k : Nat) (f : Int), |Binary64.val (.fin n k f)| = k * 2 ^ f := fun n k f => by
    rw [val_fin, abs_signFactor_mul, abs_of_nonneg (by positivity)]
  have heps : Binary64.val (.fin false Binary64.epsMant Binary64.epsExp) = Binary64.epsMant * 2 ^ Binary64.epsExp := by
    rw [val_fin, show ((signFactor false : ℤ) : ℚ) = 1 from Int.cast_one, one_mul]
  rw [hmag, heps, ← shiftLeft_mul_zpow m (min_le_left e Binary64.epsExp),
    ← shiftLeft_mul_zpow Binary64.epsMant (min_le_right e Binary64.epsExp), mul_lt_mul_iff_left₀ (two_zpow_pos _),
    Nat.cast_lt]
  exact decide_eq_true_iff

end Sys2Proof.Machine

open Sys2Proof.Machine in
/-- Settles O44: the parts are exactness below `2^53`, the rounding of 1e-9, and the comparison at one exponent. -/
theorem binarySixtyFourConstants : Obligations.BinarySixtyFourConstants :=
  ⟨fun _ hn => val_ofNat (lt_of_le_of_lt hn (by norm_num)), isRounded_eps, absAboveEps_iff⟩

open Sys2Proof.Machine in
/-- Settles O45: each operation gives `Binary64.round` its exact result. -/
theorem binaryArithmeticRoundsOnce : Obligations.BinaryArithmeticRoundsOnce := by
  intro b₁ b₂ m₁ m₂ e₁ e₂ _ hc₂
  exact ⟨isRounded_mul b₁ b₂ m₁ m₂ e₁ e₂, isRounded_sub b₁ b₂ m₁ m₂ e₁ e₂, fun h =>
    isRounded_div b₁ b₂ m₁ e₁ e₂ h hc₂.1⟩

end

section
/-! PROOFS. The register window (10_state.md R22; 20_memory.md R61, R63, R66): the address map row by row, its inverse,
what a transaction at a location's own address does, and the words of the control and status registers. -/

namespace Sys2Proof.Machine

/-! ## The tables of the address map -/

/-- The control registers stand one word apart from address 0 on. -/
theorem addrOf_of_controlLoc {k : Nat} {l : Loc} (h : controlLoc k = some l) : addrOf l = BitVec.ofNat 16 (4 * k) := by
  unfold controlLoc at h
  split at h <;> cases h <;> rfl

theorem exists_controlLoc {k : Nat} (h : k < 8) : ∃ l, controlLoc k = some l := by
  interval_cases k <;> exact ⟨_, rfl⟩

/-- S0..S3 stand two words apart. -/
theorem reg64Base_genRegAt {k : Nat} (h : k < 4) : reg64Base (genRegAt k) = 0x0040 + 8 * k := by
  interval_cases k <;> rfl

/-- The buffers stand eight words apart. -/
theorem bufBase_bufAt {k : Nat} (h : k < 9) : bufBase (bufAt k) = 0x0100 + 32 * k := by
  interval_cases k <;> rfl

/-- Every 64-bit register but WORD is one of S0..S3. -/
theorem eq_word_or_genRegAt (r : Reg64) : r = .word ∨ ∃ k < 4, r = genRegAt k := by
  cases r with
  | word => exact .inl rfl
  | s0 => exact .inr ⟨0, by decide, rfl⟩
  | s1 => exact .inr ⟨1, by decide, rfl⟩
  | s2 => exact .inr ⟨2, by decide, rfl⟩
  | s3 => exact .inr ⟨3, by decide, rfl⟩

/-- The low word of a 64-bit register stands at its base, the high word four above (20_memory.md R63). -/
theorem addrOf_reg64_toNat (r : Reg64) (hi : Bool) : (addrOf (.reg64 r hi)).toNat = reg64Base r + 4 * hi.toNat := by
  cases r <;> cases hi <;> rfl

/-- The two aligned addresses of a 64-bit register are those of its words. -/
theorem exists_addrOf_reg64 {a : Addr} (r : Reg64) (halign : a.toNat % 4 = 0) (hlo : reg64Base r ≤ a.toNat)
    (hhi : a.toNat < reg64Base r + 8) : ∃ hi, a = addrOf (.reg64 r hi) := by
  have hbase : reg64Base r % 4 = 0 := by cases r <;> rfl
  by_cases hlow : a.toNat = reg64Base r
  · exact ⟨false, BitVec.eq_of_toNat_eq (by rw [addrOf_reg64_toNat, hlow]; rfl)⟩
  · exact ⟨true, BitVec.eq_of_toNat_eq (by rw [addrOf_reg64_toNat, Bool.toNat_true]; omega)⟩

/-- The nine buffers are those the map numbers. -/
theorem eq_bufAt (b : Buf) : ∃ k < 9, b = bufAt k := by
  cases b with
  | seed => exact ⟨0, by decide, rfl⟩
  | digest => exact ⟨1, by decide, rfl⟩
  | prod => exact ⟨2, by decide, rfl⟩
  | nprod => exact ⟨3, by decide, rfl⟩
  | preoct => exact ⟨4, by decide, rfl⟩
  | aux => exact ⟨5, by decide, rfl⟩
  | chain => exact ⟨6, by decide, rfl⟩
  | result => exact ⟨7, by decide, rfl⟩
  | target => exact ⟨8, by decide, rfl⟩

/-! ## The map, row by row -/


theorem locate_controlLoc {a : Addr} {k : Nat} (hk : k < 8) (h : a.toNat = 4 * k) : locate a = controlLoc k := by
  simp only [locate, h]
  rw [if_neg (by omega), if_pos (by omega), Nat.mul_div_cancel_left k (by decide)]

theorem locate_word {a : Addr} {hi : Bool} (h : a.toNat = 0x0020 + 4 * hi.toNat) :
    locate a = some (.reg64 .word hi) := by
  have hlt := hi.toNat_lt
  simp only [locate, h]
  iterate 2 rw [if_neg (by omega)]
  rw [if_pos (by omega)]
  cases hi <;> rfl

theorem locate_genReg {a : Addr} {k : Nat} {hi : Bool} (hk : k < 4) (h : a.toNat = 0x0040 + 8 * k + 4 * hi.toNat) :
    locate a = some (.reg64 (genRegAt k) hi) := by
  have hlt := hi.toNat_lt
  have hidx : (0x0040 + 8 * k + 4 * hi.toNat - 0x0040) / 8 = k := by omega
  have hhalf : (0x0040 + 8 * k + 4 * hi.toNat) / 4 % 2 = hi.toNat := by omega
  simp only [locate, h]
  iterate 4 rw [if_neg (by omega)]
  rw [if_pos (by omega), hidx, hhalf]
  cases hi <;> rfl

theorem locate_buf {a : Addr} {k : Nat} {w : Fin 8} (hk : k < 9) (h : a.toNat = 0x0100 + 32 * k + 4 * w.val) :
    locate a = some (.buf (bufAt k) w) := by
  have hw := w.isLt
  have hidx : (0x0100 + 32 * k + 4 * w.val - 0x0100) / 32 = k := by omega
  have hword : Fin.ofNat 8 ((0x0100 + 32 * k + 4 * w.val) / 4) = w := Fin.ext (by simp only [Fin.val_ofNat]; omega)
  simp only [locate, h]
  iterate 6 rw [if_neg (by omega)]
  rw [if_pos (by omega), hidx, hword]

theorem locate_sb {a : Addr} {w : Fin 64} (h : a.toNat = 0x0400 + 4 * w.val) : locate a = some (.sb w) := by
  have hw := w.isLt
  have hword : Fin.ofNat 64 ((0x0400 + 4 * w.val - 0x0400) / 4) = w := Fin.ext (by simp only [Fin.val_ofNat]; omega)
  simp only [locate, h]
  iterate 8 rw [if_neg (by omega)]
  rw [if_pos (by omega), hword]

theorem locate_matrix {a : Addr} {r : Fin 64} {w : Fin 16} (h : a.toNat = 0x1000 + 64 * r.val + 4 * w.val) :
    locate a = some (.matrix r w) := by
  have hr := r.isLt
  have hw := w.isLt
  have hrow : Fin.ofNat 64 ((0x1000 + 64 * r.val + 4 * w.val - 0x1000) / 64) = r :=
    Fin.ext (by simp only [Fin.val_ofNat]; omega)
  have hword : Fin.ofNat 16 ((0x1000 + 64 * r.val + 4 * w.val) / 4) = w :=
    Fin.ext (by simp only [Fin.val_ofNat]; omega)
  simp only [locate, h]
  iterate 10 rw [if_neg (by omega)]
  rw [if_pos (by omega), hrow, hword]

/-- Every location's own address reaches it. -/
theorem locate_addrOf (l : Loc) : locate (addrOf l) = some l := by
  cases l with
  | id => exact locate_controlLoc (k := 0) (by decide) rfl
  | cmd => exact locate_controlLoc (k := 1) (by decide) rfl
  | status => exact locate_controlLoc (k := 2) (by decide) rfl
  | ctrl => exact locate_controlLoc (k := 3) (by decide) rfl
  | rank => exact locate_controlLoc (k := 4) (by decide) rfl
  | attempts => exact locate_controlLoc (k := 5) (by decide) rfl
  | cap => exact locate_controlLoc (k := 6) (by decide) rfl
  | errinfo => exact locate_controlLoc (k := 7) (by decide) rfl
  | reg64 r hi =>
    obtain rfl | ⟨k, hk, rfl⟩ := eq_word_or_genRegAt r
    · exact locate_word (addrOf_reg64_toNat .word hi)
    · exact locate_genReg hk (by rw [addrOf_reg64_toNat, reg64Base_genRegAt hk])
  | buf b w =>
    obtain ⟨k, hk, rfl⟩ := eq_bufAt b
    exact locate_buf hk (by rw [addrOf, bufBase_bufAt hk, BitVec.toNat_ofNat]; omega)
  | sb w => exact locate_sb (by rw [addrOf, BitVec.toNat_ofNat]; omega)
  | matrix r w => exact locate_matrix (by rw [addrOf, BitVec.toNat_ofNat]; omega)

/-- Outside the mapped rows, and at a misaligned address, nothing is reached (20_memory.md R64). -/
theorem mappedWord_of_locate {a : Addr} {l : Loc} (h : locate a = some l) : mappedWord a := by
  by_contra hn
  -- an address outside the rows falls into one of the gaps of the map
  have hnone : locate a = none := by
    unfold locate
    grind
  simp [hnone] at h

/-- An aligned address of a mapped row is some location's. -/
theorem exists_addrOf_of_mappedWord {a : Addr} (h : mappedWord a) : ∃ l, a = addrOf l := by
  obtain ⟨halign, hctl | hgen | hbuf | hsb | hmat⟩ := h
  · by_cases hword : a.toNat < 0x0020
    · obtain ⟨l, hl⟩ := exists_controlLoc (k := a.toNat / 4) (by omega)
      refine ⟨l, BitVec.eq_of_toNat_eq ?_⟩
      rw [addrOf_of_controlLoc hl, BitVec.toNat_ofNat]
      omega
    · obtain ⟨hi, h⟩ := exists_addrOf_reg64 .word halign (by simp only [reg64Base]; omega) hctl
      exact ⟨_, h⟩
  · have hbase := reg64Base_genRegAt (k := (a.toNat - 0x0040) / 8) (by omega)
    obtain ⟨hi, h⟩ := exists_addrOf_reg64 (genRegAt ((a.toNat - 0x0040) / 8)) halign (by omega) (by omega)
    exact ⟨_, h⟩
  · refine ⟨.buf (bufAt ((a.toNat - 0x0100) / 32)) (Fin.ofNat 8 (a.toNat / 4)), BitVec.eq_of_toNat_eq ?_⟩
    rw [addrOf, bufBase_bufAt (by omega), BitVec.toNat_ofNat, Fin.val_ofNat]
    omega
  · refine ⟨.sb (Fin.ofNat 64 ((a.toNat - 0x0400) / 4)), BitVec.eq_of_toNat_eq ?_⟩
    rw [addrOf, BitVec.toNat_ofNat, Fin.val_ofNat]
    omega
  · refine ⟨.matrix (Fin.ofNat 64 ((a.toNat - 0x1000) / 64)) (Fin.ofNat 16 (a.toNat / 4)), BitVec.eq_of_toNat_eq ?_⟩
    rw [addrOf, BitVec.toNat_ofNat, Fin.val_ofNat, Fin.val_ofNat]
    omega

/-- An address that reaches a location is the location's own. -/
theorem eq_addrOf_of_locate {a : Addr} {l : Loc} (h : locate a = some l) : a = addrOf l := by
  obtain ⟨l', rfl⟩ := exists_addrOf_of_mappedWord (mappedWord_of_locate h)
  obtain rfl : l' = l := by simpa [locate_addrOf] using h
  rfl

theorem locate_eq_some_iff (a : Addr) (l : Loc) : locate a = some l ↔ a = addrOf l :=
  ⟨eq_addrOf_of_locate, fun h => h ▸ locate_addrOf l⟩

/-! ## A transaction at a location's own address (60_exceptions.md R212) -/

/-- A read of a location that may be read gives its word and changes nothing else. -/
theorem busRead_addrOf {s : State} {l : Loc} (h : s.busy = true → openWhileBusy l = true) :
    busRead s (addrOf l) = { s with rdata := some (readLoc s l) } := by
  obtain ⟨hn, -⟩ | ⟨l', hl, hb, hc, -⟩ | ⟨l', hl, -, hr⟩ := busRead_cases s (addrOf l)
  · simp [locate_addrOf] at hn
  · obtain rfl : l = l' := by simpa [locate_addrOf] using hl
    simp [h hb] at hc
  · obtain rfl : l = l' := by simpa [locate_addrOf] using hl
    exact hr

/-- A write of a location that may be written reaches it. -/
theorem busWrite_addrOf {s : State} {l : Loc} (h : s.busy = true → openWhileBusy l = true) (hrw : readOnly l = false)
    (v : Word32) : busWrite s (addrOf l) v = writeLoc s l v := by
  obtain ⟨hn, -⟩ | ⟨l', hl, hb, hc, -⟩ | ⟨l', hl, -, hro, -⟩ | ⟨l', hl, -, -, hw⟩ := busWrite_cases s (addrOf l) v
  · simp [locate_addrOf] at hn
  · obtain rfl : l = l' := by simpa [locate_addrOf] using hl
    simp [h hb] at hc
  · obtain rfl : l = l' := by simpa [locate_addrOf] using hl
    simp [hrw] at hro
  · obtain rfl : l = l' := by simpa [locate_addrOf] using hl
    exact hw

/-- CMD reads 0 whatever BUSY is: a refused read gives 0 too. -/
theorem busRead_cmd_rdata (s : State) : (busRead s (addrOf .cmd)).rdata = some 0#32 := by
  obtain ⟨-, hr⟩ | ⟨l, -, -, -, hr⟩ | ⟨l, hl, -, hr⟩ := busRead_cases s (addrOf .cmd)
  · rw [hr]
  · rw [hr]
  · obtain rfl : .cmd = l := by simpa [locate_addrOf] using hl
    rw [hr]
    rfl

/-- A write to CTRL without SRST changes only IE, whatever BUSY is (10_state.md R35). -/
theorem busWrite_ctrl (s : State) {v : Word32} (h : v.getLsbD 1 = false) :
    busWrite s (addrOf .ctrl) v = { s with ie := v.getLsbD 0 } := by
  rw [busWrite_addrOf (fun _ => rfl) rfl, writeLoc]
  obtain ⟨h1, -⟩ | ⟨-, hw⟩ := writeCtrl_cases s v
  · exact absurd (h.symm.trans h1) (by decide)
  · exact hw

/-- A legal word written to CMD with BUSY = 0 is accepted (10_state.md R43). -/
theorem busWrite_cmd_legal {s : State} {w : Word32} {i : Instr} (hb : s.busy = false) (h : decode w = .ok i) :
    busWrite s (addrOf .cmd) w = accept s i := by
  rw [busWrite_addrOf (by simp [hb]) rfl, writeLoc, writeCmd, h]

/-! ## The words of the control and status registers -/

/-- Fields side by side add up, each at its weight. -/
theorem toNat_append_eq_add {m n : Nat} (x : BitVec m) (y : BitVec n) :
    (x ++ y).toNat = x.toNat * 2 ^ n + y.toNat := by
  rw [BitVec.toNat_append, ← Nat.shiftLeft_add_eq_or_of_lt y.isLt, Nat.shiftLeft_eq]

/-- STATUS has each field at its weight (10_state.md R34). -/
theorem statusWord_toNat (s : State) : s.statusWord.toNat =
    s.busy.toNat + 2 * s.done.toNat + 4 * s.mvalid.toNat + 8 * s.pass.toNat + 16 * s.eovf.toNat
      + 256 * s.errcode.toNat := by
  simp only [State.statusWord, toNat_append_eq_add, BitVec.toNat_ofBool, BitVec.toNat_ofNat]
  omega

/-- CTRL reads as IE alone (10_state.md R35). -/
theorem ctrlWord_toNat (s : State) : s.ctrlWord.toNat = s.ie.toNat := by
  simp only [State.ctrlWord, toNat_append_eq_add, BitVec.toNat_ofBool, BitVec.toNat_ofNat]
  omega

end Sys2Proof.Machine

open Sys2Proof.Machine in
/-- Settles O5: each row of the map is inverted by `addrOf`. -/
theorem addressMapIsExact : Obligations.AddressMapIsExact := locate_eq_some_iff

open Sys2Proof.Machine in
/-- Settles O13: the registers accessible while BUSY = 1 read their words always, RANK and ATTEMPTS with BUSY = 0. -/
theorem statusWordLayout : Obligations.StatusWordLayout := by
  intro s
  have hopen (l : Loc) (ho : openWhileBusy l = true) : (busRead s (addrOf l)).rdata = some (readLoc s l) := by
    rw [busRead_addrOf fun _ => ho]
  have hidle (l : Loc) (hb : s.busy = false) : (busRead s (addrOf l)).rdata = some (readLoc s l) := by
    rw [busRead_addrOf (by simp [hb])]
  exact ⟨statusWord_toNat s, rfl, rfl, BitVec.toNat_setWidth_of_le (by decide), rfl, rfl, hopen .id rfl,
    busRead_cmd_rdata s, hopen .status rfl, hopen .errinfo rfl, fun hb => ⟨hidle .rank hb, hidle .attempts hb⟩⟩

open Sys2Proof.Machine in
/-- Settles O14: CTRL is accessible whatever BUSY is, and its word is IE zero-extended. -/
theorem ctrlHoldsOnlyIe : Obligations.CtrlHoldsOnlyIe :=
  fun s _ => ⟨ctrlWord_toNat s, busWrite_ctrl s⟩

open Sys2Proof.Machine in
/-- Settles O17: with BUSY = 0 the write reaches CMD, and a legal word is accepted. -/
theorem legalWordIsAccepted : Obligations.LegalWordIsAccepted :=
  fun _ _ _ hb h => busWrite_cmd_legal hb h

end

section
/-! PROOFS. The step and the commands (10_state.md R43, R44; 20_memory.md R70): what a slot does, what a command can do,
and how a command word written to CMD comes to run. -/

namespace Sys2Proof.Machine

/-! ## One slot -/

theorem step_of_inputs_nil {s : State} (h : s.inputs = []) : step s = .next { s with rdata := none } := by
  simp only [step, h, nextSlot]

theorem step_of_inputs_cons {s : State} {slot : Slot} {rest : List Slot} (h : s.inputs = slot :: rest) :
    step s = slotStep (nextSlot s rest) slot := by
  rw [step, h]

theorem slotStep_event (s : State) (e : HostEvent) : slotStep s ⟨e, false⟩ = .next (hostEvent s e) := rfl

theorem slotStep_turn (s : State) (e : HostEvent) : slotStep s ⟨e, true⟩ = sequencerTurn (hostEvent s e) := rfl

theorem sequencerTurn_idle {s : State} (h : s.busy = false) : sequencerTurn s = .next s := by
  simp [sequencerTurn, h]

theorem sequencerTurn_exec {s : State} {i : Instr} (hb : s.busy = true) (hl : s.latch = some i) :
    sequencerTurn s = exec i s := by
  simp [sequencerTurn, hb, hl]

/-- A slot that writes a legal word with BUSY = 0 and gives the sequencer its turn runs the command (R43, R44). -/
theorem step_of_legal_word {s : State} {w : Word32} {i : Instr} {rest : List Slot} (hb : s.busy = false)
    (hw : decode w = .ok i) (hs : s.inputs = ⟨.write (addrOf .cmd) w, true⟩ :: rest) :
    step s = exec i (accept (nextSlot s rest) i) := by
  have haccept : hostEvent (nextSlot s rest) (.write (addrOf .cmd) w) = accept (nextSlot s rest) i :=
    busWrite_cmd_legal hb hw
  rw [step_of_inputs_cons hs, slotStep_turn, haccept, sequencerTurn_exec (accept_busy _ _) (accept_latch _ _)]

theorem decode_encode (i : Instr) : decode (encode i) = .ok i := by
  cases i <;> rfl

/-- The word that `withFetchWord` is given as a number is the word it schedules. -/
theorem withFetchWord_toNat (s : State) (w : Word32) : s.withFetchWord 32 w.toNat = withCommand s w := by
  rw [State.withFetchWord, Nat.mod_eq_of_lt w.isLt, BitVec.ofNat_toNat, BitVec.setWidth_eq]

/-! ## The commands -/

/-- The fields the invariant `StateInv` speaks of. -/
def invFields (s : State) :
    Bool × Bool × Option Instr × Option GenmatProgress × Word32 × Byte × Word32 × Bool × BitVec 7 × Bool × Matrix :=
  (s.busy, s.done, s.latch, s.genmat, s.cap, s.errcode, s.errinfo, s.eovf, s.rank, s.mvalid, s.m)

/-- Everything a command can do to the life cycle, the error record and the rank: GENMAT makes an attempt, ACK clears
the error record, RANK writes RANK and MVALID, and every other command only completes. -/
theorem exec_cases (i : Instr) (s : State) :
    (i = .genmat ∧ exec i s = .next (genmatAttempt s)) ∨ (i = .ack ∧ exec i s = .next (retire (clearError s))) ∨
      (i = .rank ∧ exec i s = .next (complete (s.setRank (rankOf s.m)))) ∨
      (i ∉ [.genmat, .ack, .rank] ∧ ∃ u, exec i s = .next (complete u) ∧ invFields u = invFields s) := by
  cases i with
  | genmat => exact .inl ⟨rfl, exec_genmat s⟩
  | ack => exact .inr (.inl ⟨rfl, exec_ack s⟩)
  | rank => exact .inr (.inr (.inl ⟨rfl, exec_rank s⟩))
  | nop => exact .inr (.inr (.inr ⟨by decide, _, exec_nop s, rfl⟩))
  | gseed => exact .inr (.inr (.inr ⟨by decide, _, exec_gseed s, by simp [invFields]⟩))
  | gnext => exact .inr (.inr (.inr ⟨by decide, _, exec_gnext s, by simp [invFields]⟩))
  | mvmul => exact .inr (.inr (.inr ⟨by decide, _, exec_mvmul s, by simp [invFields, mvmulStage]⟩))
  | oct => exact .inr (.inr (.inr ⟨by decide, _, exec_oct s, by simp [invFields, octStage]⟩))
  | sboxgen => exact .inr (.inr (.inr ⟨by decide, _, exec_sboxgen s, by simp [invFields, sboxgenStage]⟩))
  | anti => exact .inr (.inr (.inr ⟨by decide, _, exec_anti s, by simp [invFields, antiStage]⟩))
  | chain => exact .inr (.inr (.inr ⟨by decide, _, exec_chain s, by simp [invFields, chainStage]⟩))
  | sboxapp => exact .inr (.inr (.inr ⟨by decide, _, exec_sboxapp s, by simp [invFields, sboxappStage]⟩))
  | fold => exact .inr (.inr (.inr ⟨by decide, _, exec_fold s, by simp [invFields, foldStage]⟩))
  | cmp => exact .inr (.inr (.inr ⟨by decide, _, exec_cmp s, by simp [invFields, cmpStage]⟩))
  | eval =>
    obtain ⟨_, _, _, _, _, _, _, _, hframe⟩ := evalStages_frame Config.protocolK s
    exact .inr (.inr (.inr ⟨by decide, _, exec_eval s, by rw [hframe]; rfl⟩))

end Sys2Proof.Machine

open Sys2Proof.Machine in
/-- Settles O20: the event of the slot accepts the word, and the turn runs what LATCH then holds. -/
theorem stepRunsTheDecodedCommand : Obligations.StepRunsTheDecodedCommand :=
  fun _ _ _ _ hb hw hs => step_of_legal_word hb hw hs

open Sys2Proof.Machine in
/-- Settles O21: by the slot's two forms and the sequencer's turn for each BUSY. -/
theorem stepIsOneSlot : Obligations.StepIsOneSlot := by
  intro s rest
  refine ⟨fun i hs hb hl => ?_, fun hs hb => ?_, fun e hs => ?_, fun e hs => ⟨?_, fun hb => ?_, fun i hb hl => ?_⟩,
    step_of_inputs_nil⟩ <;> rw [step_of_inputs_cons hs]
  · exact sequencerTurn_exec hb hl
  · exact sequencerTurn_idle hb
  · exact slotStep_event _ e
  · exact slotStep_turn _ e
  · exact sequencerTurn_idle hb
  · exact sequencerTurn_exec hb hl

open Sys2Proof.Machine in
/-- Settles O22: the slot `withFetchWord` schedules writes the instruction's own word. -/
theorem fetchWordRunsNext : Obligations.FetchWordRunsNext := by
  intro s i
  rw [withFetchWord_toNat]
  exact step_of_legal_word rfl (decode_encode i) rfl

open Sys2Proof.Machine in
/-- Settles O26: by what each command can do, and for GENMAT by what an attempt can do. -/
theorem commandsComplete : Obligations.CommandsComplete := by
  intro i s
  obtain ⟨rfl, h⟩ | ⟨rfl, h⟩ | ⟨rfl, h⟩ | ⟨hi, u, h, -⟩ := exec_cases i s
  · refine ⟨_, h, fun hne => absurd rfl hne, fun _ => ?_⟩
    obtain ⟨-, ha⟩ | ⟨-, -, -, ha⟩ | ⟨-, -, ha⟩ := genmatAttempt_cases s
    · exact .inl (by simp [ha])
    · exact .inl (by simp [ha])
    · exact .inr ⟨_, ha⟩
  · exact ⟨_, h, fun _ => by simp, nofun⟩
  · exact ⟨_, h, fun _ => by simp, nofun⟩
  · simp only [List.mem_cons, not_or] at hi
    exact ⟨_, h, fun _ => by simp [hi.2.1], fun hg => absurd hg hi.1⟩

end

section
/-! PROOFS. The invariant (10_state.md R34, R36, R37, R41; 60_exceptions.md R210): each operation of the machine keeps
`StateInv`, so every step does. -/

namespace Sys2Proof.Machine

/-! ## The rank of a matrix is at most 64 -/

/-- A pass over a column counts at most one pivot. -/
theorem rankColumn_rk_le (x : RankWork) (i : Fin 64) : (rankColumn x i).rk ≤ x.rk + 1 := by
  obtain ⟨-, h⟩ | ⟨_, -, h, -⟩ := rankColumn_cases x i
  · rw [h]
    exact Nat.le_succ _
  · exact h.le

theorem foldl_rankColumn_rk_le (l : List (Fin 64)) (x : RankWork) : (l.foldl rankColumn x).rk ≤ x.rk + l.length := by
  induction l generalizing x with
  | nil => exact le_rfl
  | cons i l ih =>
    have hl := ih (rankColumn x i)
    have hi := rankColumn_rk_le x i
    rw [List.foldl_cons, List.length_cons]
    omega

/-- The columns are 64, so the rank is at most 64 (10_state.md R36). -/
theorem rankOf_le (m : Matrix) : rankOf m ≤ 64 := by
  have h := foldl_rankColumn_rk_le (List.finRange 64) (rankStart m)
  rw [List.length_finRange] at h
  unfold rankOf
  exact h.trans_eq (Nat.zero_add 64)

/-- A rank fits RANK's seven bits, in range. -/
theorem ofNat_rankOf_le (m : Matrix) : BitVec.ofNat 7 (rankOf m) ≤ 64#7 := by
  have h := rankOf_le m
  rw [BitVec.le_def, BitVec.toNat_ofNat, Nat.mod_eq_of_lt (by omega)]
  exact h

theorem rankOf_eq_of_mvalidFlag {m : Matrix} (h : mvalidFlag (rankOf m) = true) :
    BitVec.ofNat 7 (rankOf m) = 64#7 ∧ rankOf m = 64 := by
  have h64 : rankOf m = 64 := beq_iff_eq.mp h
  exact ⟨congrArg (BitVec.ofNat 7) h64, h64⟩

/-! ## What the invariant says while no command is in flight, and what it depends on -/

theorem StateInv.latch_of_idle {s : State} (h : StateInv s) (hb : s.busy = false) : s.latch = none := by
  simpa [hb] using h.latch_holds

theorem StateInv.genmat_of_idle {s : State} (h : StateInv s) (hb : s.busy = false) : s.genmat = none := by
  refine Option.eq_none_iff_forall_ne_some.mpr fun p hp => ?_
  have hlatch := (h.progress_of_genmat p hp).1
  simp [h.latch_of_idle hb] at hlatch

/-- The invariant depends on `invFields` alone. -/
theorem StateInv.of_invFields {s t : State} (h : StateInv s) (he : invFields t = invFields s) : StateInv t := by
  simp only [invFields, Prod.mk.injEq] at he
  obtain ⟨hbusy, hdone, hlatch, hgenmat, hcap, hcode, hinfo, heovf, hrank, hmvalid, hm⟩ := he
  constructor
  · rw [hbusy, hlatch]
    exact h.latch_holds
  · rw [hbusy, hdone]
    exact h.busy_not_done
  · rw [hgenmat, hlatch, hcap]
    exact h.progress_of_genmat
  · rw [hcode]
    exact h.code_listed
  · rw [hcode, hinfo, heovf]
    exact h.no_code_no_info
  · rw [hrank]
    exact h.rank_in_range
  · rw [hmvalid, hrank, hm]
    exact h.mvalid_means_rank

/-! ## Each operation keeps the invariant -/

section

variable {s : State} (h : StateInv s)
include h

theorem StateInv.nextSlot (rest : List Slot) : StateInv (nextSlot s rest) := h.of_invFields rfl

theorem StateInv.accept (i : Instr) : StateInv (accept s i) where
  latch_holds := rfl
  busy_not_done _ := rfl
  progress_of_genmat := nofun
  code_listed := h.code_listed
  no_code_no_info := h.no_code_no_info
  rank_in_range := h.rank_in_range
  mvalid_means_rank := h.mvalid_means_rank

theorem StateInv.retire : StateInv (retire s) where
  latch_holds := rfl
  busy_not_done := nofun
  progress_of_genmat := nofun
  code_listed := h.code_listed
  no_code_no_info := h.no_code_no_info
  rank_in_range := h.rank_in_range
  mvalid_means_rank := h.mvalid_means_rank

/-- DONE may be set while BUSY = 0: by completion (10_state.md R44) and by an Illegal word (60_exceptions.md R211). -/
theorem StateInv.setDone (hb : s.busy = false) : StateInv { s with done := true } :=
  { h with busy_not_done := fun hb' => absurd (hb.symm.trans hb') (by decide) }

theorem StateInv.complete : StateInv (complete s) := h.retire.setDone rfl

theorem StateInv.clearError : StateInv (clearError s) :=
  { h with
    code_listed := by simp
    no_code_no_info := fun _ => ⟨rfl, rfl⟩ }

/-- Recording a listed code (60_exceptions.md R210, R214). -/
theorem StateInv.raiseError {code : Byte} (hcode : code ≠ 0#8) (hlisted : code ≤ 0x05#8) (info : Word32) :
    StateInv (raiseError s code info) := by
  obtain ⟨-, hr⟩ | ⟨hne, hr⟩ := raiseError_cases s code info <;> rw [hr]
  · exact { h with code_listed := hlisted, no_code_no_info := fun h0 => absurd h0 hcode }
  · exact { h with no_code_no_info := fun h0 => absurd h0 hne }

theorem StateInv.setRank : StateInv (s.setRank (rankOf s.m)) :=
  { h with
    rank_in_range := ofNat_rankOf_le s.m
    mvalid_means_rank := rankOf_eq_of_mvalidFlag }

/-- What GENMAT commits: the candidate and the rank are replaced together (41_matrix.md R121). -/
theorem StateInv.genmatCommit : StateInv (genmatCommit s) :=
  { h with
    rank_in_range := ofNat_rankOf_le (genmatCandidate s).1
    mvalid_means_rank := rankOf_eq_of_mvalidFlag }

end

/-- The reset state, with any schedule, meets the invariant. -/
theorem stateInv_resetAll (s : State) : StateInv (resetAll s) where
  latch_holds := rfl
  busy_not_done := nofun
  progress_of_genmat := nofun
  code_listed := by simp
  no_code_no_info _ := ⟨rfl, rfl⟩
  rank_in_range := by simp
  mvalid_means_rank := nofun

/-! ## The bus -/

theorem StateInv.writeCmd {s : State} (h : StateInv s) (hb : s.busy = false) (v : Word32) :
    StateInv (writeCmd s v) := by
  obtain ⟨i, -, hw⟩ | ⟨_, -, hw⟩ := writeCmd_cases s v <;> rw [hw]
  · exact h.accept i
  · exact (h.raiseError (by decide) (by decide) v).setDone ((raiseError_busy s _ v).trans hb)

theorem StateInv.writeCtrl {s : State} (h : StateInv s) (v : Word32) : StateInv (writeCtrl s v) := by
  obtain ⟨-, hw⟩ | ⟨-, hw⟩ := writeCtrl_cases s v <;> rw [hw]
  · exact stateInv_resetAll s
  · exact h.of_invFields rfl

/-- A write that passed the busy check: only CMD, CAP and M hold what the invariant speaks of, and they are written with
BUSY = 0 (60_exceptions.md R212), when no GENMAT is in progress. -/
theorem StateInv.writeLoc {s : State} (h : StateInv s) {l : Loc} (ho : s.busy = true → openWhileBusy l = true)
    (v : Word32) : StateInv (writeLoc s l v) := by
  have hidle (hc : openWhileBusy l = false) : s.busy = false := by
    cases hb : s.busy with
    | false => rfl
    | true => exact absurd (hc.symm.trans (ho hb)) (by decide)
  cases l with
  | id | status | rank | attempts | errinfo => exact h
  | cmd => exact h.writeCmd (hidle rfl) v
  | ctrl => exact h.writeCtrl v
  | cap =>
    have hnone := h.genmat_of_idle (hidle rfl)
    exact { h with progress_of_genmat := fun p hp => absurd (hnone.symm.trans hp) nofun }
  | reg64 r hi => exact h.of_invFields (by simp [invFields, Machine.writeLoc])
  | buf b w => exact h.of_invFields (by simp [invFields, Machine.writeLoc])
  | sb w => exact h.of_invFields rfl
  | matrix r w => exact { h with mvalid_means_rank := nofun }

theorem StateInv.busRead {s : State} (h : StateInv s) (a : Addr) : StateInv (busRead s a) := by
  obtain ⟨-, hr⟩ | ⟨_, -, -, -, hr⟩ | ⟨_, -, -, hr⟩ := busRead_cases s a <;> rw [hr]
  · exact (h.raiseError (by decide) (by decide) _).of_invFields rfl
  · exact (h.raiseError (by decide) (by decide) _).of_invFields rfl
  · exact h.of_invFields rfl

theorem StateInv.busWrite {s : State} (h : StateInv s) (a : Addr) (v : Word32) : StateInv (busWrite s a v) := by
  obtain ⟨-, hw⟩ | ⟨_, -, -, -, hw⟩ | ⟨_, -, -, -, hw⟩ | ⟨_, -, ho, -, hw⟩ := busWrite_cases s a v <;> rw [hw]
  · exact h.raiseError (by decide) (by decide) _
  · exact h.raiseError (by decide) (by decide) _
  · exact h.raiseError (by decide) (by decide) _
  · exact h.writeLoc ho v

theorem StateInv.hostEvent {s : State} (h : StateInv s) (e : HostEvent) : StateInv (hostEvent s e) := by
  cases e with
  | idle => exact h
  | read a => exact h.busRead a
  | write a v => exact h.busWrite a v
  | reset => exact stateInv_resetAll s

/-! ## The commands -/

/-- A counted attempt is not 0: the count saturates. -/
theorem bumpAttempts_ne_zero (n : Word32) : bumpAttempts n ≠ 0#32 := by
  unfold bumpAttempts
  split
  · simp [*]
  · bv_omega

/-- An attempt of the GENMAT in flight: if it goes on, its count is below CAP (41_matrix.md R121). -/
theorem StateInv.genmatAttempt {s : State} (h : StateInv s) (hl : s.latch = some .genmat) :
    StateInv (genmatAttempt s) := by
  obtain ⟨-, ha⟩ | ⟨-, -, -, ha⟩ | ⟨-, hcap, ha⟩ := genmatAttempt_cases s <;> rw [ha]
  · exact h.genmatCommit.complete
  · exact (h.genmatCommit.raiseError (by decide) (by decide) _).complete
  · refine { h with progress_of_genmat := fun p hp => ?_ }
    obtain rfl := Option.some.inj hp
    exact ⟨hl, bumpAttempts_ne_zero _, hcap⟩

theorem StateInv.exec {s t : State} {i : Instr} (h : StateInv s) (hl : s.latch = some i) (ht : exec i s = .next t) :
    StateInv t := by
  obtain ⟨rfl, he⟩ | ⟨-, he⟩ | ⟨-, he⟩ | ⟨-, u, he, hu⟩ := exec_cases i s <;> cases he.symm.trans ht
  · exact h.genmatAttempt hl
  · exact h.clearError.retire
  · exact h.setRank.complete
  · exact (h.of_invFields hu).complete

theorem StateInv.sequencerTurn {s t : State} (h : StateInv s) (ht : sequencerTurn s = .next t) : StateInv t := by
  obtain ⟨-, hs⟩ | ⟨i, -, hl, hs⟩ | ⟨-, -, hs⟩ := sequencerTurn_cases s
  · cases hs.symm.trans ht
    exact h
  · exact h.exec hl (hs.symm.trans ht)
  · cases hs.symm.trans ht

theorem StateInv.step {s t : State} (h : StateInv s) (ht : step s = .next t) : StateInv t := by
  obtain ⟨-, hs⟩ | ⟨slot, rest, -, -, hs⟩ | ⟨slot, rest, -, -, hs⟩ := step_cases s
  · cases hs.symm.trans ht
    exact h.nextSlot []
  · cases hs.symm.trans ht
    exact (h.nextSlot rest).hostEvent slot.event
  · exact ((h.nextSlot rest).hostEvent slot.event).sequencerTurn (hs.symm.trans ht)

end Sys2Proof.Machine

open Sys2Proof.Machine in
/-- Settles O24: the next slot, its event and the sequencer's turn each keep the invariant. -/
theorem stepKeepsTheInvariant : Obligations.StepKeepsTheInvariant :=
  fun _ _ h ht => h.step ht

end

section
/-! PROOFS. The register window as storage (20_memory.md R61-R68, R72): which addresses reach nothing, what a
transaction can change at most, what a write leaves in its own word and in every other, and the weights of the bytes. -/

namespace Sys2Proof.Machine

/-! ## Addresses -/

/-- An address of a mapped row reaches a location, and no other does (20_memory.md R61, R64). -/
theorem locate_eq_none_iff (a : Addr) : locate a = none ↔ ¬ mappedWord a := by
  constructor
  · intro hnone hmapped
    obtain ⟨l, rfl⟩ := exists_addrOf_of_mappedWord hmapped
    simp [locate_addrOf] at hnone
  · intro hunmapped
    refine Option.eq_none_iff_forall_ne_some.mpr fun l hl => ?_
    exact hunmapped (mappedWord_of_locate hl)

theorem addrOf_injective : Function.Injective addrOf := fun l l' h =>
  Option.some.inj ((locate_addrOf l).symm.trans (h ▸ locate_addrOf l'))

/-- The locations accessible while BUSY = 1 are those at the addresses R212 lists (60_exceptions.md R212). -/
theorem openWhileBusy_iff_openAddress (l : Loc) : openWhileBusy l = true ↔ openAddress (addrOf l) := by
  constructor
  · intro h
    cases l with
    | id | status | ctrl | errinfo => decide
    | _ => cases h
  · rintro (h | h | h | h)
    · rw [addrOf_injective (show addrOf l = addrOf .id from h), openWhileBusy]
    · rw [addrOf_injective (show addrOf l = addrOf .status from h), openWhileBusy]
    · rw [addrOf_injective (show addrOf l = addrOf .ctrl from h), openWhileBusy]
    · rw [addrOf_injective (show addrOf l = addrOf .errinfo from h), openWhileBusy]

/-- Of the locations accessible while BUSY = 1 only CTRL is not read-only. -/
theorem eq_ctrl_of_open_of_writable {l : Loc} (ho : openWhileBusy l = true) (hw : readOnly l = false) : l = .ctrl := by
  cases l with
  | ctrl => rfl
  | id | status | errinfo => cases hw
  | _ => cases ho

/-! ## What a transaction can change at most -/

/-- Recording an error writes the error record alone (60_exceptions.md R214). -/
theorem raiseError_frame (s : State) (code : Byte) (info : Word32) :
    ∃ c i o, raiseError s code info = { s with errcode := c, errinfo := i, eovf := o } := by
  obtain ⟨-, h⟩ | ⟨-, h⟩ := raiseError_cases s code info
  · exact ⟨_, _, s.eovf, h⟩
  · exact ⟨s.errcode, s.errinfo, _, h⟩

/-- A read writes the returned word and the error record alone (20_memory.md R68). -/
theorem busRead_frame (s : State) (a : Addr) :
    ∃ x c i o, busRead s a = { s with rdata := some x, errcode := c, errinfo := i, eovf := o } := by
  have hrefused (code : Byte) (info : Word32) : ∃ x c i o,
      { raiseError s code info with rdata := some 0#32 } =
        { s with rdata := some x, errcode := c, errinfo := i, eovf := o } := by
    obtain ⟨c, i, o, h⟩ := raiseError_frame s code info
    exact ⟨0#32, c, i, o, by rw [h]⟩
  obtain ⟨-, h⟩ | ⟨-, -, -, -, h⟩ | ⟨l, -, -, h⟩ := busRead_cases s a <;> rw [h]
  · exact hrefused _ _
  · exact hrefused _ _
  · exact ⟨readLoc s l, s.errcode, s.errinfo, s.eovf, rfl⟩

/-- While BUSY = 1 a write that is no soft reset writes IE and the error record alone: of what R212 leaves accessible
only CTRL can be written (60_exceptions.md R212). -/
theorem busWrite_frame_of_busy {s : State} {a : Addr} {v : Word32} (hb : s.busy = true)
    (hsrst : a = addrOf .ctrl → v.getLsbD 1 = false) :
    ∃ b c i o, busWrite s a v = { s with ie := b, errcode := c, errinfo := i, eovf := o } := by
  have hrefused (code : Byte) (info : Word32) :
      ∃ b c i o, raiseError s code info = { s with ie := b, errcode := c, errinfo := i, eovf := o } :=
    ⟨s.ie, raiseError_frame s code info⟩
  obtain ⟨-, h⟩ | ⟨-, -, -, -, h⟩ | ⟨-, -, -, -, h⟩ | ⟨l, hl, ho, hw, -⟩ := busWrite_cases s a v
  · exact h ▸ hrefused _ _
  · exact h ▸ hrefused _ _
  · exact h ▸ hrefused _ _
  · obtain rfl := eq_ctrl_of_open_of_writable (ho hb) hw
    obtain rfl := eq_addrOf_of_locate hl
    exact ⟨_, s.errcode, s.errinfo, s.eovf, busWrite_ctrl s (hsrst rfl)⟩

/-! ## A word after it, or another, is replaced -/

theorem bufWord_putBufWord_same (b : Bytes32) (w : Fin 8) (v : Word32) : bufWord (putBufWord b w v) w = v := by
  simp [bufWord, putBufWord_getElem, Nat.mul_add_div]

theorem bufWord_putBufWord_other (b : Bytes32) {w w' : Fin 8} (v : Word32) (h : w' ≠ w) :
    bufWord (putBufWord b w v) w' = bufWord b w' := by
  simp [bufWord, putBufWord_getElem, Nat.mul_add_div, Fin.val_ne_of_ne h]

theorem tableWord_putTableWord_same (t : Table) (w : Fin 64) (v : Word32) :
    tableWord (putTableWord t w v) w = v := by
  simp [tableWord, putTableWord_getElem, Nat.mul_add_div]

theorem tableWord_putTableWord_other (t : Table) {w w' : Fin 64} (v : Word32) (h : w' ≠ w) :
    tableWord (putTableWord t w v) w' = tableWord t w' := by
  simp [tableWord, putTableWord_getElem, Nat.mul_add_div, Fin.val_ne_of_ne h]

theorem halfWord_low_toNat (x : Word64) : (halfWord x false).toNat = x.toNat % 2 ^ 32 := by
  simp [halfWord]

theorem halfWord_high_toNat (x : Word64) : (halfWord x true).toNat = x.toNat / 2 ^ 32 := by
  have hx := x.isLt
  simp only [halfWord, if_true, BitVec.extractLsb'_toNat, Nat.shiftRight_eq_div_pow]
  omega

/-- A 64-bit register with one half replaced keeps the other, at its own place. -/
theorem putHalfWord_low_toNat (x : Word64) (v : Word32) :
    (putHalfWord x false v).toNat = (halfWord x true).toNat * 2 ^ 32 + v.toNat :=
  toNat_append_eq_add (halfWord x true) v

theorem putHalfWord_high_toNat (x : Word64) (v : Word32) :
    (putHalfWord x true v).toNat = v.toNat * 2 ^ 32 + (halfWord x false).toNat :=
  toNat_append_eq_add v (halfWord x false)

theorem halfWord_putHalfWord_other (x : Word64) {hi hi' : Bool} (v : Word32) (h : hi' ≠ hi) :
    halfWord (putHalfWord x hi v) hi' = halfWord x hi' := by
  obtain rfl : hi' = !hi := Bool.eq_not_of_ne h
  apply BitVec.eq_of_toNat_eq
  cases hi with
  | false =>
    have hv := v.isLt
    rw [Bool.not_false, halfWord_high_toNat, putHalfWord_low_toNat]
    omega
  | true =>
    have hx := (halfWord x false).isLt
    rw [Bool.not_true, halfWord_low_toNat, putHalfWord_high_toNat]
    omega

/-! ## What a write to plain storage leaves in each location -/

theorem readOnly_of_plainStorage {l : Loc} (h : plainStorage l = true) : readOnly l = false := by
  cases l with
  | cap | reg64 | buf | sb => rfl
  | _ => cases h

theorem writeLoc_busy_of_plainStorage (s : State) {l : Loc} (v : Word32) (h : plainStorage l = true) :
    (writeLoc s l v).busy = s.busy := by
  cases l with
  | cap | sb => rfl
  | reg64 r hi => exact setReg64_busy s r _
  | buf b w => exact setBuf_busy s b _
  | _ => cases h

/-- With BUSY = 0 a write to plain storage passes every check of R212. -/
theorem busWrite_plainStorage {s : State} {l : Loc} (hb : s.busy = false) (h : plainStorage l = true) (v : Word32) :
    busWrite s (addrOf l) v = writeLoc s l v :=
  busWrite_addrOf (by simp [hb]) (readOnly_of_plainStorage h) v

theorem readLoc_writeLoc_same (s : State) {l : Loc} (v : Word32) (h : plainStorage l = true) :
    readLoc (writeLoc s l v) l = v := by
  cases l with
  | cap => rfl
  | reg64 r hi => simp [readLoc, writeLoc]
  | buf b w => simp [readLoc, writeLoc, bufWord_putBufWord_same]
  | sb w => exact tableWord_putTableWord_same s.sb w v
  | _ => cases h

/-- Writing a 64-bit register changes no word but its own two. -/
theorem readLoc_setReg64 (s : State) (r : Reg64) (x : Word64) {l : Loc} (h : ∀ hi, l ≠ .reg64 r hi) :
    readLoc (s.setReg64 r x) l = readLoc s l := by
  cases l with
  | reg64 r' hi =>
    have hr : r' ≠ r := fun hr => h hi (hr ▸ rfl)
    simp [readLoc, hr]
  | status => simp [readLoc, State.statusWord]
  | ctrl => simp [readLoc, State.ctrlWord]
  | _ => simp [readLoc]

/-- Writing a buffer changes no word but its own eight. -/
theorem readLoc_setBuf (s : State) (b : Buf) (x : Bytes32) {l : Loc} (h : ∀ w, l ≠ .buf b w) :
    readLoc (s.setBuf b x) l = readLoc s l := by
  cases l with
  | buf b' w =>
    have hb : b' ≠ b := fun hb => h w (hb ▸ rfl)
    simp [readLoc, hb]
  | status => simp [readLoc, State.statusWord]
  | ctrl => simp [readLoc, State.ctrlWord]
  | _ => simp [readLoc]

theorem readLoc_writeLoc_reg64 (s : State) (r : Reg64) (hi : Bool) {l : Loc} (v : Word32) (h : l ≠ .reg64 r hi) :
    readLoc (writeLoc s (.reg64 r hi) v) l = readLoc s l := by
  by_cases hother : ∀ hi', l ≠ .reg64 r hi'
  · exact readLoc_setReg64 s r _ hother
  · obtain ⟨hi', rfl⟩ := not_forall_not.mp hother
    have hhalf : hi' ≠ hi := fun he => h (he ▸ rfl)
    simp [readLoc, writeLoc, halfWord_putHalfWord_other _ v hhalf]

theorem readLoc_writeLoc_buf (s : State) (b : Buf) (w : Fin 8) {l : Loc} (v : Word32) (h : l ≠ .buf b w) :
    readLoc (writeLoc s (.buf b w) v) l = readLoc s l := by
  by_cases hother : ∀ w', l ≠ .buf b w'
  · exact readLoc_setBuf s b _ hother
  · obtain ⟨w', rfl⟩ := not_forall_not.mp hother
    have hword : w' ≠ w := fun he => h (he ▸ rfl)
    simp [readLoc, writeLoc, bufWord_putBufWord_other _ v hword]

theorem readLoc_writeLoc_sb (s : State) (w : Fin 64) {l : Loc} (v : Word32) (h : l ≠ .sb w) :
    readLoc (writeLoc s (.sb w) v) l = readLoc s l := by
  cases l with
  | sb w' => exact tableWord_putTableWord_other s.sb v fun he => h (he ▸ rfl)
  | _ => rfl

theorem readLoc_writeLoc_cap (s : State) {l : Loc} (v : Word32) (h : l ≠ .cap) :
    readLoc (writeLoc s .cap v) l = readLoc s l := by
  cases l with
  | cap => exact absurd rfl h
  | _ => rfl

theorem readLoc_writeLoc_other (s : State) {l l' : Loc} (v : Word32) (h : plainStorage l = true) (hne : l' ≠ l) :
    readLoc (writeLoc s l v) l' = readLoc s l' := by
  cases l with
  | cap => exact readLoc_writeLoc_cap s v hne
  | reg64 r hi => exact readLoc_writeLoc_reg64 s r hi v hne
  | buf b w => exact readLoc_writeLoc_buf s b w v hne
  | sb w => exact readLoc_writeLoc_sb s w v hne
  | _ => cases h

/-! ## The weights of bytes and entries (20_memory.md R63, R66) -/

/-- Byte `j` of a word has weight `2^(8j)`. -/
theorem wordOfBytes_toNat (f : Fin 4 → Byte) :
    (wordOfBytes (f 0) (f 1) (f 2) (f 3)).toNat = ∑ j : Fin 4, (f j).toNat * 2 ^ (8 * j.val) := by
  simp only [wordOfBytes, toNat_append_eq_add, Fin.sum_univ_four, Fin.isValue, Fin.coe_ofNat_eq_mod]
  ring

theorem bufWord_toNat (b : Bytes32) (w : Fin 8) : (bufWord b w).toNat =
    ∑ j : Fin 4, (b[4 * w.val + j.val]'(by omega)).toNat * 2 ^ (8 * j.val) :=
  wordOfBytes_toNat fun j => b[4 * w.val + j.val]'(by omega)

theorem tableWord_toNat (t : Table) (w : Fin 64) : (tableWord t w).toNat =
    ∑ j : Fin 4, (t[4 * w.val + j.val]'(by omega)).toNat * 2 ^ (8 * j.val) :=
  wordOfBytes_toNat fun j => t[4 * w.val + j.val]'(by omega)

/-- An entry reads as a byte of its own value: bits 7:4 are 0. -/
theorem entryByte_toNat (x : Nibble) : (entryByte x).toNat = x.toNat :=
  BitVec.toNat_setWidth_of_le (by decide)

theorem matrixWord_toNat (m : Matrix) (r : Fin 64) (w : Fin 16) : (matrixWord m r w).toNat =
    ∑ j : Fin 4, (m[r][4 * w.val + j.val]'(by omega)).toNat * 2 ^ (8 * j.val) :=
  (wordOfBytes_toNat fun j => entryByte (m[r][4 * w.val + j.val]'(by omega))).trans (by simp only [entryByte_toNat])

/-- The entry a byte of a written word stores: its low nibble. -/
theorem byteEntry_byteOfWord_toNat (v : Word32) (k : Nat) :
    (byteEntry (byteOfWord v k)).toNat = v.toNat / 2 ^ (8 * k) % 16 := by
  simp only [byteEntry, byteOfWord, BitVec.extractLsb'_toNat, Nat.shiftRight_eq_div_pow]
  omega

/-- With BUSY = 0 a write to the matrix window replaces its word and clears MVALID. -/
theorem busWrite_matrix {s : State} (hb : s.busy = false) (r : Fin 64) (w : Fin 16) (v : Word32) :
    busWrite s (addrOf (.matrix r w)) v = { s with m := putMatrixWord s.m r w v, mvalid := false } :=
  busWrite_addrOf (by simp [hb]) rfl v

theorem putMatrixWord_toNat (m : Matrix) (r : Fin 64) (w : Fin 16) (v : Word32) (i j : Fin 64) :
    ((putMatrixWord m r w v)[i][j]).toNat =
      if i = r ∧ j.val / 4 = w.val then v.toNat / 2 ^ (8 * (j.val % 4)) % 16 else (m[i][j]).toNat := by
  simp only [Fin.getElem_fin, putMatrixWord_getElem, Fin.ext_iff]
  split
  · exact byteEntry_byteOfWord_toNat v (j.val % 4)
  · rfl

end Sys2Proof.Machine

open Sys2Proof.Machine in
/-- Settles O6: a mapped word is some location's address, and what reaches a location is a mapped word. -/
theorem unmappedExactlyOutsideTheRows : Obligations.UnmappedExactlyOutsideTheRows := locate_eq_none_iff

open Sys2Proof.Machine in
/-- Settles O8: by what a read can do; an accepted one is at the address of a location that may be read. -/
theorem readsHaveNoSideEffects : Obligations.ReadsHaveNoSideEffects := by
  intro s a
  refine ⟨busRead_frame s a, fun hmapped hopen => ?_⟩
  obtain ⟨l, rfl⟩ := exists_addrOf_of_mappedWord hmapped
  exact ⟨_, busRead_addrOf fun hb => (openWhileBusy_iff_openAddress l).mpr (hopen hb)⟩

open Sys2Proof.Machine in
/-- Settles O9: the write leaves BUSY = 0, so the read is accepted and returns the word written. -/
theorem writtenWordReadsBack : Obligations.WrittenWordReadsBack := by
  intro s l v hb hl
  have hidle : (writeLoc s l v).busy = false := (writeLoc_busy_of_plainStorage s v hl).trans hb
  rw [busWrite_plainStorage hb hl, busRead_addrOf (by simp [hidle]), readLoc_writeLoc_same s v hl]

open Sys2Proof.Machine in
/-- Settles O10: the write reaches its location, and each kind of plain storage leaves every other word. -/
theorem writeLeavesOtherWords : Obligations.WriteLeavesOtherWords := by
  intro s l l' v hb hl hne
  rw [busWrite_plainStorage hb hl, readLoc_writeLoc_other s v hl hne]

open Sys2Proof.Machine in
/-- Settles O11: by the weights of the bytes of a word and the two halves of a 64-bit register. -/
theorem busWordsAreLittleEndian : Obligations.BusWordsAreLittleEndian :=
  fun s => ⟨fun b => bufWord_toNat (s.buf b), tableWord_toNat s.sb, fun r =>
    ⟨halfWord_low_toNat (s.reg64 r), halfWord_high_toNat (s.reg64 r)⟩⟩

open Sys2Proof.Machine in
/-- Settles O12: the address is that of word `w` of row `r`; with BUSY = 0 it is read and written. -/
theorem matrixWindowStoresNibbles : Obligations.MatrixWindowStoresNibbles := by
  intro s r w v hb a
  have hread : busRead s a = { s with rdata := some (matrixWord s.m r w) } :=
    busRead_addrOf (l := .matrix r w) (by simp [hb])
  have hwrite : busWrite s a v = { s with m := putMatrixWord s.m r w v, mvalid := false } := busWrite_matrix hb r w v
  rw [hread, hwrite]
  exact ⟨⟨_, rfl, matrixWord_toNat s.m r w⟩, rfl, putMatrixWord_toNat s.m r w v⟩

open Sys2Proof.Machine in
/-- Settles O27: by what a read, and while BUSY = 1 a write, can change at most. -/
theorem busyFreezesTheInputs : Obligations.BusyFreezesTheInputs := by
  intro s e hb hreset hsrst
  cases e with
  | idle => exact ⟨s.ie, s.errcode, s.errinfo, s.eovf, s.rdata, rfl⟩
  | read a =>
    obtain ⟨x, c, i, o, h⟩ := busRead_frame s a
    exact ⟨s.ie, c, i, o, some x, h⟩
  | write a v =>
    obtain ⟨b, c, i, o, h⟩ := busWrite_frame_of_busy hb fun ha => hsrst v (congrArg (HostEvent.write · v) ha)
    exact ⟨b, c, i, o, s.rdata, h⟩
  | reset => exact absurd rfl hreset

end

section
/-! PROOFS. The command word (30_encoding.md R90, R92-R94): the opcode map and its inverse, what the decoder answers in
terms of the fields OPC and RSV, and the word those fields make up. -/

namespace Sys2Proof.Machine

/-! ## The opcode map (30_encoding.md R93) -/

theorem instrOfOpcode_opcodeOf (i : Instr) : instrOfOpcode (opcodeOf i) = some i := by
  cases i <;> rfl

theorem eq_opcodeOf_of_instrOfOpcode {opc : Byte} {i : Instr} (h : instrOfOpcode opc = some i) :
    opc = opcodeOf i := by
  unfold instrOfOpcode at h
  split at h <;> cases h <;> rename_i hopc <;> exact BitVec.eq_of_toNat_eq hopc

theorem instrOfOpcode_eq_some_iff (opc : Byte) (i : Instr) : instrOfOpcode opc = some i ↔ opc = opcodeOf i :=
  ⟨eq_opcodeOf_of_instrOfOpcode, fun h => h ▸ instrOfOpcode_opcodeOf i⟩

theorem opcodeOf_le (i : Instr) : opcodeOf i ≤ 0x0E#8 := by
  cases i <;> decide

/-- The reserved opcodes are those above 0x0E. -/
theorem instrOfOpcode_eq_none_iff (opc : Byte) : instrOfOpcode opc = none ↔ 0x0E#8 < opc := by
  constructor
  · intro h
    unfold instrOfOpcode at h
    split at h <;> cases h
    simp only [imp_false] at *
    rw [BitVec.lt_def, BitVec.toNat_ofNat]
    omega
  · intro h
    refine Option.eq_none_iff_forall_ne_some.mpr fun i hi => ?_
    rw [eq_opcodeOf_of_instrOfOpcode hi] at h
    exact BitVec.not_lt.mpr (opcodeOf_le i) h

theorem exists_eq_opcodeOf_iff (opc : Byte) : (∃ i, opc = opcodeOf i) ↔ opc ≤ 0x0E#8 := by
  rw [← BitVec.not_lt, ← instrOfOpcode_eq_none_iff, ← ne_eq, Option.ne_none_iff_exists']
  simp only [instrOfOpcode_eq_some_iff]

/-! ## The decoder (30_encoding.md R92, R94) -/

theorem decode_of_rsvField {w : Word32} (h : rsvField w ≠ 0#24) : decode w = .error .reservedBits :=
  if_pos h

theorem decode_of_listed {w : Word32} {i : Instr} (hrsv : rsvField w = 0#24) (hopc : opcField w = opcodeOf i) :
    decode w = .ok i := by
  simp only [decode, hrsv, hopc, instrOfOpcode_opcodeOf, ne_eq, not_true_eq_false, if_false]

theorem decode_of_reservedOpcode {w : Word32} (hrsv : rsvField w = 0#24) (hopc : 0x0E#8 < opcField w) :
    decode w = .error .reservedOpcode := by
  simp only [decode, hrsv, (instrOfOpcode_eq_none_iff _).mpr hopc, ne_eq, not_true_eq_false, if_false]

/-- The decoder answers a command exactly for RSV = 0 over that command's opcode. -/
theorem decode_eq_ok_iff (w : Word32) (i : Instr) :
    decode w = .ok i ↔ rsvField w = 0#24 ∧ opcField w = opcodeOf i := by
  refine ⟨fun h => ?_, fun ⟨hrsv, hopc⟩ => decode_of_listed hrsv hopc⟩
  by_cases hrsv : rsvField w = 0#24
  · by_cases hgt : 0x0E#8 < opcField w
    · cases (decode_of_reservedOpcode hrsv hgt).symm.trans h
    · obtain ⟨j, hj⟩ := (exists_eq_opcodeOf_iff _).mpr (BitVec.not_lt.mp hgt)
      cases (decode_of_listed hrsv hj).symm.trans h
      exact ⟨hrsv, hj⟩
  · cases (decode_of_rsvField hrsv).symm.trans h

/-! ## The fields of a word (30_encoding.md R90) -/

theorem opcField_toNat (w : Word32) : (opcField w).toNat = w.toNat % 256 := by
  simp [opcField, BitVec.extractLsb'_toNat]

theorem rsvField_eq_zero_iff (w : Word32) : rsvField w = 0#24 ↔ w.toNat ≤ 0xFF := by
  have hlt := w.isLt
  rw [← BitVec.toNat_inj, rsvField, BitVec.extractLsb'_toNat, Nat.shiftRight_eq_div_pow, BitVec.toNat_ofNat]
  omega

theorem rsvField_append (r : BitVec 24) (b : Byte) : rsvField (r ++ b) = r :=
  BitVec.extractLsb'_append_eq_left

theorem opcField_append (r : BitVec 24) (b : Byte) : opcField (r ++ b) = b :=
  BitVec.extractLsb'_append_eq_right

/-- A word is its two fields, RSV above OPC. -/
theorem rsvField_append_opcField (w : Word32) : rsvField w ++ opcField w = w :=
  BitVec.extractLsb'_append_extractLsb'_eq_extractLsb' rfl |>.trans BitVec.extractLsb'_eq_self

theorem eq_encode_iff (w : Word32) (i : Instr) : w = encode i ↔ rsvField w = 0#24 ∧ opcField w = opcodeOf i := by
  constructor
  · rintro rfl
    exact ⟨rsvField_append _ _, opcField_append _ _⟩
  · rintro ⟨hrsv, hopc⟩
    rw [← rsvField_append_opcField w, hrsv, hopc, encode]

end Sys2Proof.Machine

open Sys2Proof.Machine in
/-- Settles O3: to decode to a command and to be its encoding both say RSV = 0 and OPC is its opcode. -/
theorem decodeAndEncodeAgree : Obligations.DecodeAndEncodeAgree :=
  fun i w => (decode_eq_ok_iff w i).trans (eq_encode_iff w i).symm

open Sys2Proof.Machine in
/-- Settles O2: the decoder answers by the fields, and the opcodes of the commands are those up to 0x0E. -/
theorem wordIsLegalExactlyWhen : Obligations.WordIsLegalExactlyWhen := by
  intro w
  constructor
  · simp only [decode_eq_ok_iff, exists_and_left, exists_eq_opcodeOf_iff]
    rfl
  · intro i h
    exact ((decode_eq_ok_iff w i).mp h).2

open Sys2Proof Sys2Proof.Machine in
/-- Settles O1: each word written out is its command's encoding; a word in 0x0F..0xFF has RSV = 0 and OPC above 0x0E. -/
theorem opcodeMapIsTheTable : Obligations.OpcodeMapIsTheTable := by
  refine ⟨decode_encode .nop, decode_encode .gseed, decode_encode .gnext, decode_encode .genmat, decode_encode .rank,
    decode_encode .mvmul, decode_encode .oct, decode_encode .sboxgen, decode_encode .anti, decode_encode .chain,
    decode_encode .sboxapp, decode_encode .fold, decode_encode .cmp, decode_encode .eval, decode_encode .ack,
    fun w hlow hhigh => ?_⟩
  have hopc : 0x0E#8 < opcField w := by
    rw [BitVec.lt_def, opcField_toNat, BitVec.toNat_ofNat]
    omega
  exact decode_of_reservedOpcode ((rsvField_eq_zero_iff w).mpr hhigh) hopc

open Sys2Proof.Laws in
/-- Settles O4: the rows of the opcode table, one by one. -/
theorem everyTableRowDecodes : Obligations.EveryTableRowDecodes := by
  intro i
  cases i with
  | nop => exact TableRow.nop
  | gseed => exact TableRow.gseed
  | gnext => exact TableRow.gnext
  | genmat => exact TableRow.genmat
  | rank => exact TableRow.rank
  | mvmul => exact TableRow.mvmul
  | oct => exact TableRow.oct
  | sboxgen => exact TableRow.sboxgen
  | anti => exact TableRow.anti
  | chain => exact TableRow.chain
  | sboxapp => exact TableRow.sboxapp
  | fold => exact TableRow.fold
  | cmp => exact TableRow.cmp
  | eval => exact TableRow.eval
  | ack => exact TableRow.ack

end

section
/-! PROOFS. The generator (40_generator.md): the lanes of a seed as numbers (R111), one step of xoshiro256++ (R113)
word by word and with its inverse, and the zero state (R115). -/

namespace Sys2Proof.Machine

/-! ## The lanes of a buffer (40_generator.md R111) -/

/-- Byte `j` of a lane has weight `2^(8j)`. -/
theorem le64_toNat (b : Bytes32) (k : Fin 4) :
    (le64 b k).toNat = ∑ j : Fin 8, (b[8 * k.val + j.val]'(by omega)).toNat * 2 ^ (8 * j.val) := by
  simp only [le64, toNat_append_eq_add, Fin.sum_univ_eight, Fin.isValue, Fin.coe_ofNat_eq_mod, Nat.reduceMod,
    Nat.add_zero]
  ring

/-! ## One step, word by word (40_generator.md R113) -/

theorem xnext_word (g : Gen) :
    (xnext g).1 = ((g.s0 + g.s3) <<< 23 ||| (g.s0 + g.s3) >>> 41) + g.s0 := by
  simp only [xnext, BitVec.rotateLeft_def, Nat.reduceMod, Nat.reduceSub]

theorem xnext_s0 (g : Gen) : (xnext g).2.s0 = g.s0 ^^^ g.s3 ^^^ g.s1 :=
  (BitVec.xor_assoc _ _ _).symm

theorem xnext_s1 (g : Gen) : (xnext g).2.s1 = g.s1 ^^^ g.s2 ^^^ g.s0 :=
  (BitVec.xor_assoc _ _ _).symm

theorem xnext_s2 (g : Gen) : (xnext g).2.s2 = g.s2 ^^^ g.s0 ^^^ g.s1 <<< 17 := rfl

theorem xnext_s3 (g : Gen) : (xnext g).2.s3 = (g.s3 ^^^ g.s1).rotateLeft 45 := rfl

/-! ## The step undone -/

theorem rotateRight_rotateLeft {w : Nat} (x : BitVec w) (r : Nat) : (x.rotateLeft r).rotateRight r = x := by
  ext i hi
  rw [BitVec.getElem_rotateRight]
  split <;> rw [BitVec.getElem_rotateLeft] <;> grind

theorem rotateLeft_rotateRight {w : Nat} (x : BitVec w) (r : Nat) : (x.rotateRight r).rotateLeft r = x := by
  ext i hi
  rw [BitVec.getElem_rotateLeft]
  split <;> rw [BitVec.getElem_rotateRight] <;> grind

/-- The inverse of `x ↦ x ^^^ x <<< 17`: the series of its shifts, which ends since 68 bits shift everything out. -/
def xorShiftInv (y : Word64) : Word64 := y ^^^ y <<< 17 ^^^ y <<< 34 ^^^ y <<< 51

/-- The series telescopes. -/
theorem xorShiftInv_xor_shiftLeft (y : Word64) : xorShiftInv y ^^^ xorShiftInv y <<< 17 = y := by
  have hout : y <<< 68 = 0#64 := BitVec.shiftLeft_eq_zero (by decide)
  simp only [xorShiftInv, BitVec.shiftLeft_xor_distrib, ← BitVec.shiftLeft_add, Nat.reduceAdd, hout]
  grind

/-- The series is a sum of shifts, so it commutes with `x ↦ x ^^^ x <<< 17`. -/
theorem xorShiftInv_of_xor_shiftLeft (x : Word64) : xorShiftInv (x ^^^ x <<< 17) = x := by
  have hcomm : xorShiftInv (x ^^^ x <<< 17) = xorShiftInv x ^^^ xorShiftInv x <<< 17 := by
    simp only [xorShiftInv, BitVec.shiftLeft_xor_distrib, ← BitVec.shiftLeft_add, Nat.reduceAdd]
    grind
  rw [hcomm, xorShiftInv_xor_shiftLeft]

/-- The state before a step, from the state after it. S3 rotated back is `s3 ^^^ s1`, which S0 holds beside `s0`; in
S1 ^^^ S2 the words `s0` and `s2` cancel, which leaves `s1 ^^^ s1 <<< 17`. -/
def genBefore (g : Gen) : Gen :=
  let s31 := g.s3.rotateRight 45
  let s0 := g.s0 ^^^ s31
  let s1 := xorShiftInv (g.s1 ^^^ g.s2)
  ⟨s0, s1, g.s1 ^^^ s1 ^^^ s0, s31 ^^^ s1⟩

theorem genBefore_s0 (g : Gen) : (genBefore g).s0 = g.s0 ^^^ g.s3.rotateRight 45 := rfl

theorem genBefore_s1 (g : Gen) : (genBefore g).s1 = xorShiftInv (g.s1 ^^^ g.s2) := rfl

theorem genBefore_s2 (g : Gen) : (genBefore g).s2 = g.s1 ^^^ (genBefore g).s1 ^^^ (genBefore g).s0 := rfl

theorem genBefore_s3 (g : Gen) : (genBefore g).s3 = g.s3.rotateRight 45 ^^^ (genBefore g).s1 := rfl

theorem Gen.eq_of_words {g h : Gen} (h0 : g.s0 = h.s0) (h1 : g.s1 = h.s1) (h2 : g.s2 = h.s2) (h3 : g.s3 = h.s3) :
    g = h := by
  cases g
  cases h
  simp_all only

theorem genBefore_xnext (g : Gen) : genBefore (xnext g).2 = g := by
  have hs31 : (xnext g).2.s3.rotateRight 45 = g.s3 ^^^ g.s1 := by rw [xnext_s3, rotateRight_rotateLeft]
  have hs0 : (genBefore (xnext g).2).s0 = g.s0 := by
    rw [genBefore_s0, hs31, xnext_s0, BitVec.xor_assoc g.s0, xor_cancel_right]
  have hs1 : (genBefore (xnext g).2).s1 = g.s1 := by
    rw [genBefore_s1, xnext_s1, xnext_s2, BitVec.xor_assoc g.s1, BitVec.xor_assoc g.s1, xor_cancel_left,
      xorShiftInv_of_xor_shiftLeft]
  refine Gen.eq_of_words hs0 hs1 ?_ ?_
  · rw [genBefore_s2, hs0, hs1, xnext_s1, BitVec.xor_assoc g.s1, BitVec.xor_comm _ g.s1, xor_cancel_left,
      xor_cancel_right]
  · rw [genBefore_s3, hs31, hs1, xor_cancel_right]

theorem xnext_genBefore (g : Gen) : (xnext (genBefore g)).2 = g := by
  refine Gen.eq_of_words ?_ ?_ ?_ ?_
  · rw [xnext_s0, genBefore_s3, BitVec.xor_assoc, xor_cancel_right, genBefore_s0, xor_cancel_right]
  · rw [xnext_s1, genBefore_s2, BitVec.xor_assoc, xor_cancel_right, BitVec.xor_comm, xor_cancel_right]
  · rw [xnext_s2, genBefore_s2, xor_cancel_right, genBefore_s1, BitVec.xor_assoc, xorShiftInv_xor_shiftLeft,
      xor_cancel_left]
  · rw [xnext_s3, genBefore_s3, xor_cancel_right, rotateLeft_rotateRight]

/-! ## The zero state (40_generator.md R115) -/

theorem xnext_zeroGen : xnext zeroGen = (0#64, zeroGen) := by decide

end Sys2Proof.Machine

open Sys2Proof.Machine in
/-- Settles O34: `genBefore` undoes the state update on both sides. -/
theorem generatorStepIsBijective : Obligations.GeneratorStepIsBijective :=
  Function.bijective_iff_has_inverse.mpr ⟨genBefore, genBefore_xnext, xnext_genBefore⟩

open Sys2Proof.Machine in
/-- Settles O32: completion and `setGen` leave the rest, and each lane is the sum of its bytes. -/
theorem gseedLoadsTheLanes : Obligations.GseedLoadsTheLanes :=
  ⟨rfl, fun s => ⟨_, exec_gseed s, rfl, le64_toNat s.seed 0, le64_toNat s.seed 1, le64_toNat s.seed 2,
    le64_toNat s.seed 3⟩⟩

open Sys2Proof.Machine in
/-- Settles O33: the step from S0..S3, word by word. -/
theorem gnextDrawsOneWord : Obligations.GnextDrawsOneWord :=
  ⟨rfl, fun s => ⟨_, exec_gnext s, rfl, xnext_word s.gen, xnext_s0 s.gen, xnext_s1 s.gen, xnext_s2 s.gen,
    (xnext_s3 s.gen).trans BitVec.rotateLeft_def⟩⟩

open Sys2Proof.Machine in
/-- Settles O35: the step and the lanes of a seed at zero. -/
theorem zeroStateIsFixed : Obligations.ZeroStateIsFixed := ⟨xnext_zeroGen, seedGen_zero⟩

end

section
/-! PROOFS. The candidate fill (41_matrix.md R122): the words drawn are the generator's sequence (40_generator.md R114),
and each entry is a nibble of its word. -/

namespace Sys2Proof.Machine

theorem drawWords_state (n : Nat) (g : Gen) : (drawWords n g).2 = (fun x => (xnext x).2)^[n] g := by
  induction n generalizing g with
  | zero => rfl
  | succ n ih => exact ih _

theorem drawWords_getElem? {n k : Nat} (h : k < n) (g : Gen) :
    (drawWords n g).1[k]? = some (xnext ((fun x => (xnext x).2)^[k] g)).1 := by
  induction n generalizing g k with
  | zero => exact absurd h (Nat.not_lt_zero k)
  | succ n ih =>
    cases k with
    | zero => rfl
    | succ k => exact ih (Nat.lt_of_succ_lt_succ h) _

theorem nibbleOf_toNat (w : Word64) (k : Nat) : (nibbleOf w k).toNat = w.toNat / 2 ^ (4 * k) % 16 := by
  rw [nibbleOf, BitVec.extractLsb'_toNat, Nat.shiftRight_eq_div_pow]

/-- Entry (r, c) is a nibble of word 4r + ⌊c/16⌋ of the words that fill the matrix. -/
theorem matrixOfWords_entry {ws : List Word64} {w : Word64} (r c : Fin 64)
    (h : ws[4 * r.val + c.val / 16]? = some w) : (matrixOfWords ws)[r][c] = nibbleOf w (c.val % 16) := by
  have hword : c.val / 16 < 4 := by omega
  simp [matrixOfWords, List.getElem?_take_of_lt hword, h]

theorem fill_matrix (g : Gen) : (fill g).1 = matrixOfWords (drawWords 256 g).1 := by
  simp only [fill]

theorem fill_state (g : Gen) : (fill g).2 = (fun x => (xnext x).2)^[256] g := by
  simp only [fill, drawWords_state]

end Sys2Proof.Machine

open Sys2Proof.Machine in
/-- Settles O36: an entry is a nibble of its word, which is the generator's word of that number. -/
theorem fillDrawsTheSequence : Obligations.FillDrawsTheSequence := by
  refine fun g => ⟨fill_state g, fun r c => ?_⟩
  have hword : 4 * r.val + c.val / 16 < 256 := by omega
  rw [fill_matrix, matrixOfWords_entry r c (drawWords_getElem? hword g), nibbleOf_toNat]

end

section
/-! PROOFS. The Rank Computer (41_matrix.md R124): the least pivot of a column, each entry after a pass over it, the
work state column by column, and the ranks of two named matrices (R127). -/

namespace Sys2Proof.Machine

/-! ## The pivot of a column -/

theorem findPivot_eq_none {x : RankWork} {i : Fin 64}
    (h : ∀ r : Fin 64, x.sel[r] = false → Binary64.absAboveEps x.w[r][i] = false) : findPivot x i = none := by
  obtain ⟨hn, -⟩ | ⟨j, -, hsel, habove⟩ := findPivot_cases x i
  · exact hn
  · exact absurd ((h j hsel).symm.trans habove) (by decide)

theorem findPivot_eq_some {x : RankWork} {i j : Fin 64} (hsel : x.sel[j] = false)
    (habove : Binary64.absAboveEps x.w[j][i] = true)
    (hleast : ∀ r < j, x.sel[r] = false → Binary64.absAboveEps x.w[r][i] = false) : findPivot x i = some j := by
  have hpivot : (!x.sel[j] && Binary64.absAboveEps x.w[j][i]) = true := by rw [hsel, habove]; rfl
  refine List.find?_eq_some_iff_getElem.mpr ⟨hpivot, j, by simp, by simp, fun r hr => ?_⟩
  have hr64 : r < 64 := hr.trans j.isLt
  have hrow := hleast ⟨r, hr64⟩ hr
  rw [List.getElem_finRange, Bool.not_eq_true', Bool.and_eq_false_imp, Bool.not_eq_true']
  exact hrow

/-! ## Each row after a pass -/

theorem normalizeRow_right (row : Vector Binary64 64) {i p : Fin 64} (h : i < p) :
    (normalizeRow row i)[p] = Binary64.div row[p] row[i] := by
  simp [normalizeRow, h]

theorem normalizeRow_left (row : Vector Binary64 64) {i p : Fin 64} (h : p ≤ i) : (normalizeRow row i)[p] = row[p] := by
  simp [normalizeRow, h.not_gt]

theorem eliminateRow_of_within (pivotRow : Vector Binary64 64) {row : Vector Binary64 64} {i : Fin 64}
    (h : Binary64.absAboveEps row[i] = false) : eliminateRow row pivotRow i = row := by
  rw [eliminateRow, h]
  rfl

theorem eliminateRow_right (pivotRow : Vector Binary64 64) {row : Vector Binary64 64} {i p : Fin 64} (hp : i < p)
    (h : Binary64.absAboveEps row[i] = true) :
    (eliminateRow row pivotRow i)[p] = Binary64.sub row[p] (Binary64.mul pivotRow[p] row[i]) := by
  rw [eliminateRow, if_pos h]
  simp [hp]

theorem eliminateRow_left (row pivotRow : Vector Binary64 64) {i p : Fin 64} (h : p ≤ i) :
    (eliminateRow row pivotRow i)[p] = row[p] := by
  unfold eliminateRow
  split
  · simp [h.not_gt]
  · rfl

/-! ## One pass over a column -/

theorem rankColumn_of_none {x : RankWork} {i : Fin 64} (h : findPivot x i = none) : rankColumn x i = x := by
  simp only [rankColumn, h]

section
variable {x : RankWork} {i j : Fin 64} (h : findPivot x i = some j)
include h

theorem rankColumn_rk : (rankColumn x i).rk = x.rk + 1 := by simp only [rankColumn, h]

theorem rankColumn_sel (r : Fin 64) : (rankColumn x i).sel[r] = if r = j then true else x.sel[r] := by
  simp [rankColumn, h, Vector.getElem_set, Fin.ext_iff, eq_comm]

theorem rankColumn_w_pivot : (rankColumn x i).w[j] = normalizeRow x.w[j] i := by
  simp [rankColumn, h]

theorem rankColumn_w_other {r : Fin 64} (hr : r ≠ j) :
    (rankColumn x i).w[r] = eliminateRow x.w[r] (rankColumn x i).w[j] i := by
  rw [rankColumn_w_pivot h]
  simp [rankColumn, h, hr]

theorem rankColumn_w_pivot_right {p : Fin 64} (hp : i < p) :
    (rankColumn x i).w[j][p] = Binary64.div x.w[j][p] x.w[j][i] := by
  rw [rankColumn_w_pivot h, normalizeRow_right _ hp]

theorem rankColumn_w_other_right {r p : Fin 64} (hr : r ≠ j) (hp : i < p)
    (ha : Binary64.absAboveEps x.w[r][i] = true) :
    (rankColumn x i).w[r][p] = Binary64.sub x.w[r][p] (Binary64.mul (rankColumn x i).w[j][p] x.w[r][i]) := by
  rw [rankColumn_w_other h hr, eliminateRow_right _ hp ha]

theorem rankColumn_w_other_within {r : Fin 64} (hr : r ≠ j) (ha : Binary64.absAboveEps x.w[r][i] = false) :
    (rankColumn x i).w[r] = x.w[r] := by
  rw [rankColumn_w_other h hr, eliminateRow_of_within _ ha]

/-- No entry up to the column changes, in the pivot's row or in another. -/
theorem rankColumn_w_left (r : Fin 64) {p : Fin 64} (hp : p ≤ i) : (rankColumn x i).w[r][p] = x.w[r][p] := by
  by_cases hr : r = j
  · rw [hr, rankColumn_w_pivot h, normalizeRow_left _ hp]
  · rw [rankColumn_w_other h hr, eliminateRow_left _ _ hp]

end

/-! ## The work state, column by column -/

/-- The work state before column `n`: the passes over the columns below `n` are done. -/
def workBefore (m : Matrix) (n : Nat) : RankWork := ((List.finRange 64).take n).foldl rankColumn (rankStart m)

theorem workBefore_succ (m : Matrix) (i : Fin 64) : workBefore m (i + 1) = rankColumn (workBefore m i) i := by
  have hi : i.val < (List.finRange 64).length := by simp
  rw [workBefore, List.take_succ_eq_append_getElem hi, List.foldl_concat, List.getElem_finRange]
  rfl

theorem rankOf_eq_workBefore (m : Matrix) : rankOf m = (workBefore m 64).rk := by
  unfold rankOf
  rfl

/-- RANK's seven bits hold a rank whole (41_matrix.md R125). -/
theorem ofNat_rankOf_toNat (m : Matrix) : (BitVec.ofNat 7 (rankOf m)).toNat = rankOf m := by
  have h := rankOf_le m
  rw [BitVec.toNat_ofNat, Nat.mod_eq_of_lt (by omega)]

/-! ## The identity and the all-15 matrix (41_matrix.md R127) -/

/-- The identity matrix. -/
def identityMatrix : Matrix := Vector.ofFn fun r : Fin 64 => Vector.ofFn fun q : Fin 64 => if r = q then 1#4 else 0#4

theorem identityMatrix_w (r p : Fin 64) :
    (rankStart identityMatrix).w[r][p] = if r = p then Binary64.ofNat 1 else Binary64.ofNat 0 := by
  rw [rankStart_w]
  by_cases h : r = p <;> simp [identityMatrix, h]

theorem identityMatrix_above_iff (r p : Fin 64) :
    Binary64.absAboveEps (rankStart identityMatrix).w[r][p] = true ↔ r = p := by
  have hone : Binary64.absAboveEps (Binary64.ofNat 1) = true := by decide +kernel
  have hzero : Binary64.absAboveEps (Binary64.ofNat 0) = false := by decide
  rw [identityMatrix_w]
  by_cases h : r = p <;> simp [h, hone, hzero]

/-- The work state of the identity before column `n`: the rows below `n` are selected, and no entry has changed. -/
def identityWork (n : Nat) : RankWork :=
  { w := (rankStart identityMatrix).w, sel := Vector.ofFn fun r => decide (r.val < n), rk := n }

theorem identityWork_sel (n : Nat) (r : Fin 64) : (identityWork n).sel[r] = decide (r.val < n) := by
  simp [identityWork]

theorem RankWork.ext_entries {x y : RankWork} (hw : ∀ r p : Fin 64, x.w[r][p] = y.w[r][p])
    (hsel : ∀ r : Fin 64, x.sel[r] = y.sel[r]) (hrk : x.rk = y.rk) : x = y := by
  obtain ⟨w, sel, rk⟩ := x
  obtain ⟨w', sel', rk'⟩ := y
  congr
  · exact Vector.ext fun r hr => Vector.ext fun p hp => hw ⟨r, hr⟩ ⟨p, hp⟩
  · exact Vector.ext fun r hr => hsel ⟨r, hr⟩

/-- Row `i` is the pivot of column `i`; its zeros divided by 1 are zeros, and no other row has an entry there. -/
theorem rankColumn_identityWork (i : Fin 64) : rankColumn (identityWork i) i = identityWork (i + 1) := by
  have hpivot : findPivot (identityWork i) i = some i := by
    have hunselected : (identityWork i).sel[i] = false := (identityWork_sel i i).trans (by simp)
    refine findPivot_eq_some hunselected ((identityMatrix_above_iff i i).mpr rfl) fun r hr hsel => ?_
    rw [identityWork_sel, decide_eq_false_iff_not] at hsel
    exact absurd hr hsel
  have hdiv : Binary64.div (Binary64.ofNat 0) (Binary64.ofNat 1) = Binary64.ofNat 0 := by decide +kernel
  refine RankWork.ext_entries (fun r p => ?_) (fun r => ?_) (rankColumn_rk hpivot)
  · by_cases hr : r = i
    · subst hr
      rcases le_or_gt p r with hp | hp
      · exact rankColumn_w_left hpivot r hp
      · refine (rankColumn_w_pivot_right hpivot hp).trans ?_
        simp only [identityWork, identityMatrix_w, if_true, if_neg hp.ne, hdiv]
    · have hwithin : Binary64.absAboveEps (identityWork i).w[r][i] = false :=
        Bool.eq_false_of_not_eq_true (mt (identityMatrix_above_iff r i).mp hr)
      exact congrArg (·[p]) (rankColumn_w_other_within hpivot hr hwithin)
  · rw [rankColumn_sel hpivot, identityWork_sel, identityWork_sel]
    by_cases hr : r = i
    · simp [hr]
    · have hlt : r.val < i + 1 ↔ r.val < i := by omega
      simp [hr, hlt]

theorem workBefore_identityMatrix {n : Nat} (h : n ≤ 64) : workBefore identityMatrix n = identityWork n := by
  induction n with
  | zero => exact RankWork.ext_entries (fun _ _ => rfl) (fun r => by simp [workBefore, rankStart, identityWork]) rfl
  | succ n ih => rw [workBefore_succ identityMatrix ⟨n, h⟩, ih (Nat.le_of_succ_le h), rankColumn_identityWork ⟨n, h⟩]

/-- The all-15 matrix. -/
def allFifteenMatrix : Matrix := Vector.replicate 64 (Vector.replicate 64 15#4)

theorem allFifteenMatrix_w (r p : Fin 64) : (rankStart allFifteenMatrix).w[r][p] = Binary64.ofNat 15 := by
  rw [rankStart_w]
  simp [allFifteenMatrix]

theorem findPivot_allFifteenMatrix : findPivot (rankStart allFifteenMatrix) 0 = some 0 := by
  refine findPivot_eq_some (by simp [rankStart]) ?_ fun r hr => absurd hr (Fin.not_lt_zero r)
  rw [allFifteenMatrix_w]
  decide +kernel

/-- After column 0 row 0 is selected and every other row is 15 - (15 / 15) * 15 = 0, so no column has a pivot. -/
theorem findPivot_allFifteenMatrix_after {i : Fin 64} (hi : 0 < i) :
    findPivot (rankColumn (rankStart allFifteenMatrix) 0) i = none := by
  have habove : Binary64.absAboveEps (Binary64.ofNat 15) = true := by decide +kernel
  have hzero : Binary64.absAboveEps (Binary64.sub (Binary64.ofNat 15)
      (Binary64.mul (Binary64.div (Binary64.ofNat 15) (Binary64.ofNat 15)) (Binary64.ofNat 15))) = false := by
    decide +kernel
  refine findPivot_eq_none fun r hsel => ?_
  have hr : r ≠ 0 := by
    rintro rfl
    simp [rankColumn_sel findPivot_allFifteenMatrix] at hsel
  rw [rankColumn_w_other_right findPivot_allFifteenMatrix hr hi (by rw [allFifteenMatrix_w, habove]),
    rankColumn_w_pivot_right findPivot_allFifteenMatrix hi]
  simp only [allFifteenMatrix_w, hzero]

theorem workBefore_allFifteenMatrix {n : Nat} (h : n < 64) :
    workBefore allFifteenMatrix (n + 1) = rankColumn (rankStart allFifteenMatrix) 0 := by
  induction n with
  | zero => exact workBefore_succ allFifteenMatrix 0
  | succ n ih =>
    have hi : (0 : Fin 64) < ⟨n + 1, h⟩ := Nat.succ_pos n
    rw [workBefore_succ allFifteenMatrix ⟨n + 1, h⟩, ih (Nat.lt_of_succ_lt h),
      rankColumn_of_none (findPivot_allFifteenMatrix_after hi)]

end Sys2Proof.Machine

open Sys2Proof.Machine in
/-- Settles O37: RANK's seven bits hold the rank, which is at most 64. -/
theorem rankReportsTheRank : Obligations.RankReportsTheRank :=
  ⟨rfl, fun s => ⟨_, exec_rank s, rfl, ofNat_rankOf_toNat s.m, beq_iff_eq, rankOf_le s.m⟩⟩

open Sys2Proof.Machine in
/-- Settles O38: by each entry after one pass over a column, from the work state before it. -/
theorem rankFollowsTheElimination : Obligations.RankFollowsTheElimination := by
  intro m
  refine ⟨fun n r p => (workBefore m n).w[r][p], fun n r => (workBefore m n).sel[r], fun n => (workBefore m n).rk,
    rankStart_w m, fun r => Vector.getElem_replicate r.isLt, rfl, rankOf_eq_workBefore m,
    fun i => ⟨fun hnone => ?_, fun j hsel habove hleast => ?_⟩⟩
  · have hpivot := findPivot_eq_none fun r hr => Bool.eq_false_of_not_eq_true (hnone r hr)
    simp only [workBefore_succ, rankColumn_of_none hpivot, and_self]
  · have hpivot := findPivot_eq_some hsel habove fun r hr hr' => Bool.eq_false_of_not_eq_true (hleast r hr hr')
    simp only [workBefore_succ]
    refine ⟨rankColumn_rk hpivot, fun r => ?_, fun p hp => rankColumn_w_pivot_right hpivot hp,
      fun r p hr hp ha => rankColumn_w_other_right hpivot hr hp ha, fun r p hr ha => ?_,
      fun r p hp => rankColumn_w_left hpivot r hp⟩
    · by_cases hr : r = j <;> simp [rankColumn_sel hpivot, hr]
    · exact congrArg (·[p]) (rankColumn_w_other_within hpivot hr (Bool.eq_false_of_not_eq_true ha))

open Sys2Proof.Machine in
/-- Settles O39: each column of the identity counts its own row; of the all-15 matrix only column 0 counts. -/
theorem rankOfIdentityAndAllFifteen : Obligations.RankOfIdentityAndAllFifteen := by
  refine ⟨?_, ?_⟩
  · exact (rankOf_eq_workBefore _).trans (congrArg RankWork.rk (workBefore_identityMatrix le_rfl))
  · refine (rankOf_eq_workBefore _).trans ?_
    rw [← allFifteenMatrix, workBefore_allFifteenMatrix (n := 63) (by decide), rankColumn_rk findPivot_allFifteenMatrix]
    rfl

end

section
/-! PROOFS. GENMAT (41_matrix.md R121): one attempt by the candidate and the count, the attempts one after the other up
to the one that completes the command, and the bound a cap sets (60_exceptions.md R213). -/

namespace Sys2Proof.Machine

/-! ## One attempt -/

theorem bumpAttempts_toNat (n : Word32) : (bumpAttempts n).toNat = min (n.toNat + 1) 0xFFFFFFFF := by
  unfold bumpAttempts
  split
  · simp [*]
  · bv_omega

theorem genmatProgress_gen (s : State) :
    (genmatProgress s).gen = (s.genmat.map GenmatProgress.gen).getD (seedGen s.seed) := by
  rw [genmatProgress]
  cases s.genmat <;> rfl

theorem genmatProgress_n (s : State) : (genmatProgress s).n = (s.genmat.map GenmatProgress.n).getD 0#32 := by
  rw [genmatProgress]
  cases s.genmat <;> rfl

theorem genmatCount_toNat (s : State) : (genmatCount s).toNat = min ((genmatProgress s).n.toNat + 1) 0xFFFFFFFF :=
  bumpAttempts_toNat _

theorem mvalidFlag_eq_false {rk : Nat} (h : rk ≠ 64) : mvalidFlag rk = false := beq_false_of_ne h

/-- What a completing GENMAT leaves, whole (41_matrix.md R121). -/
theorem complete_genmatCommit (s : State) : complete (genmatCommit s) =
    { s with m := (genmatCandidate s).1, s0 := (genmatCandidate s).2.s0, s1 := (genmatCandidate s).2.s1,
             s2 := (genmatCandidate s).2.s2, s3 := (genmatCandidate s).2.s3,
             rank := BitVec.ofNat 7 (rankOf (genmatCandidate s).1), attempts := genmatCount s,
             mvalid := mvalidFlag (rankOf (genmatCandidate s).1), busy := false, done := true, latch := none,
             genmat := none } := rfl

theorem raiseError_gen (s : State) (code : Byte) (info : Word32) : (raiseError s code info).gen = s.gen := by
  simp [State.gen]

theorem errorRecorded_raiseError (s : State) (code : Byte) (info : Word32) :
    ErrorRecorded s (raiseError s code info) code info :=
  ⟨fun h => raiseError_first h code info, fun h => raiseError_later h code info⟩

theorem complete_raiseError (s : State) (code : Byte) (info : Word32) :
    complete (raiseError s code info) = raiseError (complete s) code info := by
  by_cases h : s.errcode = 0#8
  · rw [raiseError_first h, raiseError_first (s := complete s) h]
    rfl
  · rw [raiseError_later h, raiseError_later (s := complete s) h]
    rfl

/-! ## The attempts of a GENMAT just accepted, one after the other -/

/-- A GENMAT in flight of which the first `k` attempts have not completed it. -/
structure GenmatAt (k : Nat) (s : State) : Prop where
  busy : s.busy = true
  latch : s.latch = some .genmat
  gen : (genmatProgress s).gen = genAfter s.seed k
  count : (genmatProgress s).n.toNat = k

theorem genmatAt_zero {s : State} (hb : s.busy = true) (hl : s.latch = some .genmat) (hg : s.genmat = none) :
    GenmatAt 0 s where
  busy := hb
  latch := hl
  gen := by rw [genmatProgress, hg]; rfl
  count := by rw [genmatProgress, hg]; rfl

section
variable {k : Nat} {s : State} (h : GenmatAt k s)
include h

theorem GenmatAt.turn : sequencerTurn s = .next (genmatAttempt s) := sequencerTurn_exec h.busy h.latch

theorem GenmatAt.candidate_fst : (genmatCandidate s).1 = candidate s.seed k := by
  rw [genmatCandidate, h.gen, candidate]

/-- The stream goes on from candidate to candidate: it is never reseeded. -/
theorem GenmatAt.candidate_snd : (genmatCandidate s).2 = genAfter s.seed (k + 1) := by
  rw [genmatCandidate, h.gen, genAfter, genAfter, Function.iterate_succ_apply']

theorem GenmatAt.count_succ (hk : k + 1 < 2 ^ 32) : (genmatCount s).toNat = k + 1 := by
  rw [genmatCount_toNat, h.count]
  omega

/-- What a completion on candidate `k + 1` commits, whether its rank is 64 or it is the one at the cap. -/
theorem GenmatAt.genmatCommit_fields (hk : k + 1 < 2 ^ 32) :
    (genmatCommit s).m = candidate s.seed k ∧ (genmatCommit s).gen = genAfter s.seed (k + 1) ∧
      (genmatCommit s).rank.toNat = rankOf (candidate s.seed k) ∧ (genmatCommit s).attempts.toNat = k + 1 ∧
      (genmatCommit s).mvalid = mvalidFlag (rankOf (candidate s.seed k)) := by
  rw [← h.candidate_fst]
  exact ⟨rfl, h.candidate_snd, ofNat_rankOf_toNat _, h.count_succ hk, rfl⟩

theorem GenmatAt.commits (h64 : rankOf (candidate s.seed k) = 64) :
    genmatAttempt s = complete (genmatCommit s) := by
  rw [← h.candidate_fst] at h64
  exact if_pos h64

theorem GenmatAt.commits_at_cap (hk : k + 1 < 2 ^ 32) (hmiss : rankOf (candidate s.seed k) ≠ 64)
    (hcap : s.cap.toNat = k + 1) :
    genmatAttempt s = raiseError (complete (genmatCommit s)) codeGenmatCap (genmatCount s) := by
  rw [← h.candidate_fst] at hmiss
  have hcount := h.count_succ hk
  have hend : s.cap ≠ 0#32 ∧ s.cap ≤ genmatCount s := by bv_omega
  rw [← complete_raiseError, genmatAttempt, if_neg hmiss, if_pos hend]

theorem GenmatAt.goesOn (hk : k + 1 < 2 ^ 32) (hmiss : rankOf (candidate s.seed k) ≠ 64)
    (hcap : s.cap ≠ 0#32 → k + 1 < s.cap.toNat) :
    ∃ p, genmatAttempt s = { s with genmat := p } ∧ GenmatAt (k + 1) { s with genmat := p } := by
  have hcount := h.count_succ hk
  have hgo : ¬ (s.cap ≠ 0#32 ∧ s.cap ≤ genmatCount s) := by
    rintro ⟨h0, hle⟩
    have := hcap h0
    bv_omega
  rw [← h.candidate_fst] at hmiss
  refine ⟨some ⟨(genmatCandidate s).2, genmatCount s⟩, ?_, h.busy, h.latch, h.candidate_snd, hcount⟩
  rw [genmatAttempt, if_neg hmiss, if_neg hgo]

end

/-- The slot a turn takes and the data a read left are no part of a GENMAT's progress. -/
theorem GenmatAt.nextSlot {k : Nat} {s : State} (h : GenmatAt k s) (rest : List Slot) : GenmatAt k (nextSlot s rest) :=
  ⟨h.busy, h.latch, h.gen, h.count⟩

theorem replicate_turnSlot_succ (k : Nat) (rest : List Slot) :
    List.replicate (k + 1) turnSlot ++ rest = List.replicate k turnSlot ++ turnSlot :: rest := by
  rw [List.replicate_succ', List.append_assoc, List.singleton_append]

/-- The first `k` attempts miss rank 64 and the cap is not among them: `k` turns leave the command in flight, and only
its hidden progress has changed. -/
theorem GenmatAt.run {s : State} (h : GenmatAt 0 s) {k : Nat} (hk : k < 2 ^ 32)
    (hmiss : ∀ j < k, rankOf (candidate s.seed j) ≠ 64) (hcap : s.cap ≠ 0#32 → k < s.cap.toNat) (rest : List Slot) :
    ∃ x p, runSteps k { s with inputs := List.replicate k turnSlot ++ rest } =
        .next { s with inputs := rest, rdata := x, genmat := p } ∧
      GenmatAt k { s with inputs := rest, rdata := x, genmat := p } := by
  induction k generalizing rest with
  | zero => exact ⟨s.rdata, s.genmat, rfl, h.busy, h.latch, h.gen, h.count⟩
  | succ k ih =>
    obtain ⟨x, p, hrun, hat⟩ := ih (Nat.lt_of_succ_lt hk) (fun j hj => hmiss j (Nat.lt_succ_of_lt hj))
      (fun h0 => Nat.lt_of_succ_lt (hcap h0)) (turnSlot :: rest)
    obtain ⟨p', hgo, hat'⟩ := (hat.nextSlot rest).goesOn hk (hmiss k (Nat.lt_succ_self k)) hcap
    refine ⟨none, p', ?_, hat'⟩
    rw [replicate_turnSlot_succ, runSteps_add 1 hrun, runSteps_one]
    exact (hat.nextSlot rest).turn.trans (congrArg Host.Outcome.next hgo)

/-- The turn after them is the attempt on candidate `k + 1`. -/
theorem GenmatAt.run_succ {s : State} (h : GenmatAt 0 s) {k : Nat} (hk : k < 2 ^ 32)
    (hmiss : ∀ j < k, rankOf (candidate s.seed j) ≠ 64) (hcap : s.cap ≠ 0#32 → k < s.cap.toNat) (rest : List Slot) :
    ∃ p, runSteps (k + 1) { s with inputs := List.replicate (k + 1) turnSlot ++ rest } =
        .next (genmatAttempt { s with inputs := rest, rdata := none, genmat := p }) ∧
      GenmatAt k { s with inputs := rest, rdata := none, genmat := p } := by
  obtain ⟨x, p, hrun, hat⟩ := h.run hk hmiss hcap (turnSlot :: rest)
  refine ⟨p, ?_, hat.nextSlot rest⟩
  rw [replicate_turnSlot_succ, runSteps_add 1 hrun, runSteps_one]
  exact (hat.nextSlot rest).turn

/-! ## The cap -/

/-- With no command in flight a turn has no effect. -/
theorem runSteps_idle_turns {s : State} (hb : s.busy = false) (n : Nat) (hs : s.inputs = List.replicate n turnSlot) :
    ∃ x, runSteps n s = .next { s with inputs := [], rdata := x } := by
  induction n generalizing s with
  | zero =>
    have hnil : s.inputs = [] := hs
    exact ⟨s.rdata, by rw [runSteps_zero, ← hnil]⟩
  | succ n ih =>
    have hstep : step s = .next (nextSlot s (List.replicate n turnSlot)) := by
      rw [step_of_inputs_cons hs]
      exact sequencerTurn_idle hb
    obtain ⟨x, hrun⟩ := ih (s := nextSlot s (List.replicate n turnSlot)) hb rfl
    exact ⟨x, (runSteps_succ n hstep).trans hrun⟩

/-- The attempt that finds rank 64, or is the one at the cap, completes the command. -/
theorem GenmatAt.completes {k : Nat} {s : State} (h : GenmatAt k s) (hk : k + 1 < 2 ^ 32)
    (hend : rankOf (candidate s.seed k) = 64 ∨ s.cap.toNat = k + 1) :
    (genmatAttempt s).busy = false ∧ (genmatAttempt s).done = true ∧
      ((genmatAttempt s).mvalid = true ∨ (genmatAttempt s).attempts = s.cap) ∧
      (genmatAttempt s).inputs = s.inputs := by
  by_cases h64 : rankOf (candidate s.seed k) = 64
  · simp [h.commits h64, h.candidate_fst, h64, mvalidFlag]
  · have hcap := hend.resolve_left h64
    have hcount : genmatCount s = s.cap := BitVec.eq_of_toNat_eq ((h.count_succ hk).trans hcap.symm)
    simp [h.commits_at_cap hk h64 hcap, hcount]

end Sys2Proof.Machine

open Sys2Proof.Machine in
/-- Settles O40: by what an attempt can do, with the candidate and the count it stands at. -/
theorem genmatTurn : Obligations.GenmatTurn := by
  refine ⟨rfl, fun s => ⟨_, exec_genmat s, ?_⟩⟩
  have hfill : fill (genmatProgress s).gen = genmatCandidate s := rfl
  simp only [← genmatProgress_gen, ← genmatProgress_n, ← genmatCount_toNat, ← BitVec.le_def, hfill]
  obtain ⟨h64, ha⟩ | ⟨hmiss, hcap, hle, ha⟩ | ⟨hmiss, hgo, ha⟩ := genmatAttempt_cases s
  · rw [if_pos h64, ha, complete_genmatCommit, h64]
    exact ⟨rfl, rfl⟩
  · rw [if_neg hmiss, if_pos ⟨hcap, hle⟩, ha, complete_raiseError, raiseError_rank, raiseError_attempts]
    refine ⟨?_, rfl, ofNat_rankOf_toNat _⟩
    have hrecorded := errorRecorded_raiseError (complete (genmatCommit s)) codeGenmatCap (genmatCount s)
    rw [complete_genmatCommit, mvalidFlag_eq_false hmiss] at hrecorded ⊢
    exact hrecorded
  · rw [if_neg hmiss, if_neg fun h => (BitVec.not_le.mpr (hgo h.1)) h.2, ha]
    exact ⟨rfl, _, rfl, rfl, rfl⟩

open Sys2Proof.Machine in
/-- Settles O41: `k` attempts go on, and the next one commits at rank 64 or at the cap. -/
theorem genmatFollowsTheLoop : Obligations.GenmatFollowsTheLoop := by
  intro s k hk hbusy hlatch hgenmat hmiss hcap
  have hstart := genmatAt_zero hbusy hlatch hgenmat
  obtain ⟨x, p, hrun, -⟩ := hstart.run (Nat.lt_of_succ_lt hk) hmiss hcap []
  obtain ⟨q, hrun', hat⟩ := hstart.run_succ (Nat.lt_of_succ_lt hk) hmiss hcap []
  rw [List.append_nil] at hrun hrun'
  obtain ⟨hm, hgen, hrank, hattempts, hmvalid⟩ := hat.genmatCommit_fields hk
  refine ⟨⟨_, hrun, rfl⟩, _, hrun', fun h64 => ?_, fun hk64 hend => ?_⟩
  · rw [hat.commits h64]
    exact ⟨rfl, rfl, hm, hgen, BitVec.eq_of_toNat_eq (hrank.trans h64), hattempts,
      hmvalid.trans (congrArg mvalidFlag h64), rfl, rfl, rfl, rfl⟩
  · rw [hat.commits_at_cap hk hk64 hend]
    refine ⟨raiseError_busy _ _ _, raiseError_done _ _ _, (raiseError_m _ _ _).trans hm,
      (raiseError_gen _ _ _).trans hgen, (congrArg BitVec.toNat (raiseError_rank _ _ _)).trans hrank,
      (congrArg BitVec.toNat (raiseError_attempts _ _ _)).trans hattempts,
      (raiseError_mvalid _ _ _).trans (hmvalid.trans (mvalidFlag_eq_false hk64)), fun h0 => ?_, fun h0 => ?_,
      raiseError_word _ _ _⟩
    · rw [raiseError_first]
      exacts [⟨rfl, hat.count_succ hk, rfl⟩, h0]
    · rw [raiseError_later]
      exacts [⟨rfl, rfl, rfl⟩, h0]

open Sys2Proof.Machine in
/-- Settles O43: the first attempt at rank 64 or at the cap completes, and the turns after it have no effect. -/
theorem capBoundsGenmat : Obligations.CapBoundsGenmat := by
  intro s hbusy hlatch hgenmat hcap
  have hcap0 : s.cap.toNat ≠ 0 := fun h0 => hcap (BitVec.eq_of_toNat_eq h0)
  have hlast : ∃ k, rankOf (candidate s.seed k) = 64 ∨ s.cap.toNat = k + 1 := ⟨s.cap.toNat - 1, .inr (by omega)⟩
  obtain ⟨hend, hfirst⟩ := And.intro (Nat.find_spec hlast) fun j => Nat.find_min hlast (m := j)
  have hle : Nat.find hlast ≤ s.cap.toNat - 1 := Nat.find_min' hlast (.inr (by omega))
  generalize Nat.find hlast = k at hend hfirst hle
  obtain ⟨n, hn⟩ : ∃ n, s.cap.toNat = k + 1 + n := Nat.exists_eq_add_of_le (by omega)
  have hlt : k + 1 < 2 ^ 32 := by omega
  obtain ⟨p, hrun, hat⟩ := (genmatAt_zero hbusy hlatch hgenmat).run_succ (Nat.lt_of_succ_lt hlt)
    (fun j hj h64 => hfirst j hj (.inl h64)) (fun _ => by omega) (List.replicate n turnSlot)
  obtain ⟨hb, hd, hresult, hinputs⟩ := hat.completes hlt hend
  obtain ⟨x, hidle⟩ := runSteps_idle_turns hb n hinputs
  rw [hn, ← List.replicate_append_replicate, runSteps_add n hrun, hidle]
  exact ⟨_, rfl, hb, hd, hresult⟩

end

section
/-! PROOFS. The matrix-vector product (42_mixing.md R141-R144): the digest's nibbles and the weighted sums as numbers,
the bound on a sum, and the two bytes MVMUL writes. -/

namespace Sys2Proof.Machine

/-! ## The nibble vector (42_mixing.md R142) -/

/-- Nibble `j` of a digest as a number, the high one of each byte first. -/
def nibbleValue (d : Bytes32) (j : Fin 64) : Nat :=
  if j.val % 2 = 0 then (d[j.val / 2]'(by omega)).toNat / 16 else (d[j.val / 2]'(by omega)).toNat % 16

theorem nibbleVector_toNat (d : Bytes32) (j : Fin 64) : (nibbleVector d)[j].toNat = nibbleValue d j := by
  simp only [nibbleVector, nibbleValue, Fin.getElem_fin, Vector.getElem_ofFn]
  split
  · have hbyte := (d[j.val / 2]'(by omega)).isLt
    rw [BitVec.extractLsb'_toNat, Nat.shiftRight_eq_div_pow]
    omega
  · rw [BitVec.extractLsb'_toNat, Nat.shiftRight_zero]

/-! ## The weighted sums (42_mixing.md R143) -/

theorem weightedSum_eq_sum (row nib : Vector Nibble 64) :
    weightedSum row nib = ∑ j : Fin 64, row[j].toNat * nib[j].toNat :=
  (Fin.sum_univ_def _).symm

/-- The exact sum of a row with the nibbles of a digest. -/
def nibbleSum (row : Vector Nibble 64) (d : Bytes32) : Nat := ∑ j : Fin 64, row[j].toNat * nibbleValue d j

theorem weightedSum_nibbleVector (row : Vector Nibble 64) (d : Bytes32) :
    weightedSum row (nibbleVector d) = nibbleSum row d := by
  simp only [weightedSum_eq_sum, nibbleVector_toNat, nibbleSum]

theorem nibble_mul_le (x y : Nibble) : x.toNat * y.toNat ≤ 225 :=
  Nat.mul_le_mul (Nat.le_of_lt_succ x.isLt) (Nat.le_of_lt_succ y.isLt)

/-- Each of the 64 products is at most 225. -/
theorem weightedSum_le (row nib : Vector Nibble 64) : weightedSum row nib ≤ 14400 := by
  rw [weightedSum_eq_sum]
  exact Finset.sum_le_card_nsmul _ _ 225 fun j _ => nibble_mul_le row[j] nib[j]

theorem weightedSum_replicate (x y : Nibble) :
    weightedSum (Vector.replicate 64 x) (Vector.replicate 64 y) = 64 * (x.toNat * y.toNat) := by
  simp [weightedSum_eq_sum]

/-! ## The bytes MVMUL writes (42_mixing.md R141, R144) -/

theorem mvPair_nibbleVector (k : ProtocolK) (m : Matrix) (d : Bytes32) (i : Fin 32) :
    mvPair k m (nibbleVector d) i =
      k.mvCombine i (nibbleSum m[k.rowsel 0 i] d) (nibbleSum m[k.rowsel 1 i] d) (nibbleSum m[k.rowsel 2 i] d)
        (nibbleSum m[k.rowsel 3 i] d) := by
  simp only [mvPair, weightedSum_nibbleVector]

theorem complete_setProducts_frame (s : State) (p n : Bytes32) : complete (s.setProducts p n) =
    { s with prod := p, nprod := n, busy := false, done := true, latch := none, genmat := none } := rfl

theorem mvmulStage_prod_getElem (k : ProtocolK) (s : State) (i : Fin 32) :
    (mvmulStage k s).prod[i] = (mvPair k s.m (nibbleVector s.digest) i).1 ^^^ s.digest[i] :=
  Vector.getElem_ofFn _

theorem mvmulStage_nprod_getElem (k : ProtocolK) (s : State) (i : Fin 32) :
    (mvmulStage k s).nprod[i] = (mvPair k s.m (nibbleVector s.digest) i).2 ^^^ s.digest[i] :=
  Vector.getElem_ofFn _

end Sys2Proof.Machine

open Sys2Proof Sys2Proof.Machine in
/-- Settles O46: each byte MVMUL writes, with the four sums of its rows as sums over the digest's nibbles. -/
theorem mvmulCombinesExactSums : Obligations.MvmulCombinesExactSums := by
  refine ⟨rfl, fun s => ⟨_, exec_mvmul s, complete_setProducts_frame s _ _, fun i => ?_⟩⟩
  have hpair := mvPair_nibbleVector Config.protocolK s.m s.digest i
  exact ⟨(mvmulStage_prod_getElem _ s i).trans (congrArg (·.1 ^^^ s.digest[i]) hpair),
    (mvmulStage_nprod_getElem _ s i).trans (congrArg (·.2 ^^^ s.digest[i]) hpair)⟩

open Sys2Proof.Machine in
/-- Settles O47: 64 products of at most 225 each, all of them 225 in the all-15 vectors. -/
theorem weightedSumsAreBounded : Obligations.WeightedSumsAreBounded :=
  ⟨weightedSum_le, weightedSum_replicate 15#4 15#4⟩

end

section
/-! PROOFS. The octonion product (42_mixing.md R146): the table of a record and the record of a table, a component of
the product as a sum of signed terms, and the products with units. -/

namespace Sys2Proof.Machine

/-! ## A third unit -/

theorem otherUnit_comm (i j : Fin 8) : otherUnit i j = otherUnit j i := by simp only [otherUnit, and_comm]

theorem otherUnit_ne (i j : Fin 8) : otherUnit i j ≠ 0 ∧ otherUnit i j ≠ i ∧ otherUnit i j ≠ j := by
  revert i j
  decide

/-- The choice `c` for the units `i` and `j`, replaced where it is no third imaginary unit. -/
def thirdUnit (i j c : Fin 8) : Fin 8 := if c = 0 ∨ c = i ∨ c = j then otherUnit i j else c

theorem thirdUnit_comm (i j c : Fin 8) : thirdUnit i j c = thirdUnit j i c := by
  simp only [thirdUnit, otherUnit_comm i j, or_comm (a := c = i)]

theorem thirdUnit_ne (i j c : Fin 8) : thirdUnit i j c ≠ 0 ∧ thirdUnit i j c ≠ i ∧ thirdUnit i j c ≠ j := by
  unfold thirdUnit
  split
  next => exact otherUnit_ne i j
  next hthird => simpa only [not_or] using hthird

theorem thirdUnit_of_ne {i j c : Fin 8} (h : c ≠ 0 ∧ c ≠ i ∧ c ≠ j) : thirdUnit i j c = c :=
  if_neg (by simpa only [not_or] using h)

/-! ## The table of a record -/

section
variable (k : ProtocolK) {i j : Fin 8}

theorem octIdx_zero_left (j : Fin 8) : octIdx k 0 j = j := if_pos rfl

theorem octIdx_zero_right (i : Fin 8) : octIdx k i 0 = i := by
  by_cases hi : i = 0 <;> simp [octIdx, hi]

theorem octIdx_self (hi : i ≠ 0) : octIdx k i i = 0 := by simp [octIdx, hi]

theorem octNeg_zero_left (j : Fin 8) : octNeg k 0 j = false := if_pos (.inl rfl)

theorem octNeg_zero_right (i : Fin 8) : octNeg k i 0 = false := if_pos (.inr rfl)

theorem octNeg_self (hi : i ≠ 0) : octNeg k i i = true := by simp [octNeg, hi]

theorem octIdx_of_distinct (hi : i ≠ 0) (hj : j ≠ 0) (hij : i ≠ j) :
    octIdx k i j = thirdUnit i j (k.octIdxChoice (min i j) (max i j)) := by
  simp only [octIdx, thirdUnit, hi, hj, hij, if_false]

theorem octNeg_of_lt (hi : i ≠ 0) (hij : i < j) : octNeg k i j = k.octNegChoice i j := by
  have hj : j ≠ 0 := Fin.ne_zero_of_lt hij
  simp [octNeg, hi, hj, hij.ne, hij]

theorem octNeg_of_gt (hj : j ≠ 0) (hji : j < i) : octNeg k i j = !k.octNegChoice j i := by
  have hi : i ≠ 0 := Fin.ne_zero_of_lt hji
  simp [octNeg, hi, hj, hji.ne', hji.not_gt]

theorem octIdx_comm (hi : i ≠ 0) (hj : j ≠ 0) (hij : i ≠ j) : octIdx k i j = octIdx k j i := by
  rw [octIdx_of_distinct k hi hj hij, octIdx_of_distinct k hj hi hij.symm, min_comm, max_comm, thirdUnit_comm]

theorem octIdx_ne (hi : i ≠ 0) (hj : j ≠ 0) (hij : i ≠ j) :
    octIdx k i j ≠ 0 ∧ octIdx k i j ≠ i ∧ octIdx k i j ≠ j := by
  rw [octIdx_of_distinct k hi hj hij]
  exact thirdUnit_ne i j _

theorem octNeg_swap (hi : i ≠ 0) (hj : j ≠ 0) (hij : i ≠ j) : octNeg k j i = !octNeg k i j := by
  obtain hlt | hgt := lt_or_gt_of_ne hij
  · rw [octNeg_of_lt k hi hlt, octNeg_of_gt k hi hlt]
  · rw [octNeg_of_lt k hj hgt, octNeg_of_gt k hj hgt, Bool.not_not]

end

/-! ## The record of a table -/

/-- A record that chooses the given table for i < j. -/
def recordOfTable (idx : Fin 8 → Fin 8 → Fin 8) (neg : Fin 8 → Fin 8 → Bool) : ProtocolK :=
  { (default : ProtocolK) with octIdxChoice := idx, octNegChoice := neg }

section
variable {idx : Fin 8 → Fin 8 → Fin 8} {neg : Fin 8 → Fin 8 → Bool} {i j : Fin 8}

theorem recordOfTable_octIdxChoice : (recordOfTable idx neg).octIdxChoice = idx := rfl

theorem recordOfTable_octNegChoice : (recordOfTable idx neg).octNegChoice = neg := rfl

theorem octIdx_recordOfTable (hi : i ≠ 0) (hj : j ≠ 0) (hij : i ≠ j) (hcomm : idx i j = idx j i)
    (hthird : idx i j ≠ 0 ∧ idx i j ≠ i ∧ idx i j ≠ j) : octIdx (recordOfTable idx neg) i j = idx i j := by
  have hchoice : idx (min i j) (max i j) = idx i j := by
    obtain hle | hle := le_total i j
    · rw [min_eq_left hle, max_eq_right hle]
    · rw [min_eq_right hle, max_eq_left hle, hcomm]
  rw [octIdx_of_distinct _ hi hj hij, recordOfTable_octIdxChoice, hchoice, thirdUnit_of_ne hthird]

theorem octNeg_recordOfTable (hi : i ≠ 0) (hj : j ≠ 0) (hij : i ≠ j) (hswap : neg j i = !neg i j) :
    octNeg (recordOfTable idx neg) i j = neg i j := by
  obtain hlt | hgt := lt_or_gt_of_ne hij
  · exact octNeg_of_lt _ hi hlt
  · rw [octNeg_of_gt _ hj hgt, recordOfTable_octNegChoice, hswap, Bool.not_not]

end

/-! ## A component of the product -/

/-- `K.OCT_SGN(i, j)` as a word: 1 or −1 modulo 2^64. -/
def octSign (k : ProtocolK) (i j : Fin 8) : Word64 := if octNeg k i j then -1 else 1

theorem octTerm_eq (k : ProtocolK) (a b : Octonion) (i j : Fin 8) :
    octTerm k a b i j = octSign k i j * (a[i] * b[j]) := by
  rw [octTerm, octSign]
  split <;> ring

/-- An accumulating loop over all indices adds their sum. -/
theorem foldl_finRange_add {n : Nat} (f : Fin n → Word64) (x : Word64) :
    (List.finRange n).foldl (fun acc i => acc + f i) x = x + ∑ i, f i := by
  have hmap := List.foldl_assoc (op := fun y z : Word64 => y + z) (l := (List.finRange n).map f) (a₁ := x) (a₂ := 0)
  rw [add_zero, List.foldl_map, ← List.sum_eq_foldl] at hmap
  rw [Fin.sum_univ_def, hmap]

theorem octmul_getElem (k : ProtocolK) (a b : Octonion) (e : Fin 8) :
    (octmul k a b)[e] = ∑ i, ∑ j, if octIdx k i j = e then octSign k i j * (a[i] * b[j]) else 0 := by
  have hadd (acc : Word64) (i j : Fin 8) : (if octIdx k i j = e then acc + octTerm k a b i j else acc) =
      acc + if octIdx k i j = e then octSign k i j * (a[i] * b[j]) else 0 := by
    split
    · rw [octTerm_eq]
    · rw [add_zero]
  simp only [octmul, Fin.getElem_fin, Vector.getElem_ofFn, Fin.eta, hadd, foldl_finRange_add]
  exact zero_add _

/-- Component `e` is the integer sum of the signed products, cast to a word. -/
theorem octmul_getElem_eq_intCast (k : ProtocolK) (a b : Octonion) (e : Fin 8) :
    (octmul k a b)[e] = ((∑ i : Fin 8, ∑ j : Fin 8,
      if octIdx k i j = e then (if octNeg k i j then (-1 : ℤ) else 1) * (a[i].toNat * b[j].toNat : ℤ) else 0 : ℤ)
        : Word64) := by
  rw [octmul_getElem]
  push_cast
  simp only [BitVec.natCast_eq_ofNat, BitVec.ofNat_toNat, BitVec.setWidth_eq]
  rfl

/-! ## Products with units -/

/-- The unit e_i. -/
def octUnit (i : Fin 8) : Octonion := Vector.ofFn fun j => if j = i then 1#64 else 0#64

theorem octUnit_same (i : Fin 8) : (octUnit i)[i] = 1 := by simp [octUnit]

theorem octUnit_other {i j : Fin 8} (h : j ≠ i) : (octUnit i)[j] = 0 := by simp [octUnit, h]

theorem Octonion.eq_of_components {x y : Octonion} (h : ∀ e : Fin 8, x[e] = y[e]) : x = y :=
  Vector.ext fun e he => h ⟨e, he⟩

section
variable (k : ProtocolK)

/-- Left multiplication by a unit: only its own row of the table counts. -/
theorem octmul_octUnit_left (i : Fin 8) (b : Octonion) (e : Fin 8) :
    (octmul k (octUnit i) b)[e] = ∑ j, if octIdx k i j = e then octSign k i j * b[j] else 0 := by
  rw [octmul_getElem, Fintype.sum_eq_single i fun x hx => by simp only [octUnit_other hx, zero_mul, mul_zero, ite_self,
    Finset.sum_const_zero]]
  simp only [octUnit_same, one_mul]

/-- Right multiplication by a unit: only its own column of the table counts. -/
theorem octmul_octUnit_right (a : Octonion) (j e : Fin 8) :
    (octmul k a (octUnit j))[e] = ∑ i, if octIdx k i j = e then octSign k i j * a[i] else 0 := by
  rw [octmul_getElem, Finset.sum_comm, Fintype.sum_eq_single j fun x hx => by simp only [octUnit_other hx, mul_zero,
    ite_self, Finset.sum_const_zero]]
  simp only [octUnit_same, mul_one]

theorem octmul_octUnit_octUnit (i j e : Fin 8) :
    (octmul k (octUnit i) (octUnit j))[e] = if octIdx k i j = e then octSign k i j else 0 := by
  rw [octmul_octUnit_left, Fintype.sum_eq_single j fun x hx => by simp only [octUnit_other hx, mul_zero, ite_self]]
  simp only [octUnit_same, mul_one]

theorem octSign_zero_left (j : Fin 8) : octSign k 0 j = 1 := by simp [octSign, octNeg_zero_left]

theorem octSign_zero_right (i : Fin 8) : octSign k i 0 = 1 := by simp [octSign, octNeg_zero_right]

theorem octSign_self {i : Fin 8} (hi : i ≠ 0) : octSign k i i = -1 := by simp [octSign, octNeg_self k hi]

theorem octSign_swap {i j : Fin 8} (hi : i ≠ 0) (hj : j ≠ 0) (hij : i ≠ j) : octSign k j i = -octSign k i j := by
  rw [octSign, octSign, octNeg_swap k hi hj hij]
  cases octNeg k i j <;> rfl

theorem octmul_one_left (b : Octonion) : octmul k (octUnit 0) b = b := by
  refine Octonion.eq_of_components fun e => ?_
  simp only [octmul_octUnit_left, octIdx_zero_left, octSign_zero_left, one_mul, Finset.sum_ite_eq', Finset.mem_univ,
    if_true]

theorem octmul_one_right (a : Octonion) : octmul k a (octUnit 0) = a := by
  refine Octonion.eq_of_components fun e => ?_
  simp only [octmul_octUnit_right, octIdx_zero_right, octSign_zero_right, one_mul, Finset.sum_ite_eq', Finset.mem_univ,
    if_true]

theorem octmul_octUnit_anticomm {i j : Fin 8} (hi : i ≠ 0) (hj : j ≠ 0) (hij : i ≠ j) (e : Fin 8) :
    (octmul k (octUnit i) (octUnit j))[e] = -(octmul k (octUnit j) (octUnit i))[e] := by
  rw [octmul_octUnit_octUnit, octmul_octUnit_octUnit, octIdx_comm k hj hi hij.symm, octSign_swap k hi hj hij]
  split
  · exact (neg_neg _).symm
  · exact neg_zero.symm

theorem octmul_octUnit_self {i : Fin 8} (hi : i ≠ 0) :
    octmul k (octUnit i) (octUnit i) = Vector.ofFn fun j => if j = 0 then -(1#64) else 0#64 := by
  refine Octonion.eq_of_components fun e => ?_
  rw [octmul_octUnit_octUnit, octIdx_self k hi, octSign_self k hi]
  simp only [Fin.getElem_fin, Vector.getElem_ofFn, Fin.eta, eq_comm (a := (0 : Fin 8))]
  rfl

end

end Sys2Proof.Machine

open Sys2Proof.Machine in
/-- Settles O48: each law of a record's table; a table that meets them is its own choice for i < j, and the laws give
the rest of it. -/
theorem octonionTableIsAdmissible : Obligations.OctonionTableIsAdmissible := by
  refine ⟨fun k i j => ?_, fun idx neg h => ⟨recordOfTable idx neg, fun i j => ?_⟩⟩
  · refine ⟨octIdx_zero_left k j, octIdx_zero_right k i, octNeg_zero_left k j, octNeg_zero_right k i,
      fun hi => ⟨octIdx_self k hi, octNeg_self k hi⟩, fun hi hj hij => ?_⟩
    obtain ⟨hne0, hnei, hnej⟩ := octIdx_ne k hi hj hij
    exact ⟨octIdx_comm k hi hj hij, hne0, hnei, hnej, octNeg_swap k hi hj hij⟩
  · obtain ⟨hidx0j, hidxi0, hneg0j, hnegi0, hself, hdistinct⟩ := h i j
    by_cases hi : i = 0
    · subst hi
      exact ⟨(octIdx_zero_left _ j).trans hidx0j.symm, (octNeg_zero_left _ j).trans hneg0j.symm⟩
    by_cases hj : j = 0
    · subst hj
      exact ⟨(octIdx_zero_right _ i).trans hidxi0.symm, (octNeg_zero_right _ i).trans hnegi0.symm⟩
    by_cases hij : i = j
    · subst hij
      obtain ⟨hidx, hneg⟩ := hself hi
      exact ⟨(octIdx_self _ hi).trans hidx.symm, (octNeg_self _ hi).trans hneg.symm⟩
    obtain ⟨hcomm, hne0, hnei, hnej, hswap⟩ := hdistinct hi hj hij
    exact ⟨octIdx_recordOfTable hi hj hij hcomm ⟨hne0, hnei, hnej⟩, octNeg_recordOfTable hi hj hij hswap⟩

open Sys2Proof.Machine in
/-- Settles O49: the cast of integers to words commutes with the sums, the signs and the products. -/
theorem octonionProductIsTheSignedSum : Obligations.OctonionProductIsTheSignedSum := fun k a b e =>
  (congrArg BitVec.toNat (octmul_getElem_eq_intCast k a b e)).trans (BitVec.toNat_ofInt _)

open Sys2Proof.Machine in
/-- Settles O50: the products with units, by the laws of the table. -/
theorem octonionUnitLaws : Obligations.OctonionUnitLaws := fun k =>
  ⟨fun b => ⟨octmul_one_left k b, octmul_one_right k b⟩,
    fun _ _ hi hj hij e => octmul_octUnit_anticomm k hi hj hij e, fun _ hi => octmul_octUnit_self k hi⟩

end

section
/-! PROOFS. OCT (42_mixing.md R145): the accumulator round by round and the bytes written back. -/

namespace Sys2Proof.Machine

/-- The accumulator after the first `n` rounds. -/
def octAccumulatorAfter (k : ProtocolK) (p : Bytes32) (n : Nat) : Octonion :=
  (List.range n).foldl (fun a r => octmul k a (octWindowOf k p r)) (octStart p)

theorem octAccumulator_eq (k : ProtocolK) (p : Bytes32) :
    octAccumulator k p = octAccumulatorAfter k p (octRounds k) := rfl

theorem octAccumulatorAfter_succ (k : ProtocolK) (p : Bytes32) (r : Nat) :
    octAccumulatorAfter k p (r + 1) = octmul k (octAccumulatorAfter k p r) (octWindowOf k p r) := by
  rw [octAccumulatorAfter, List.range_succ, List.foldl_append]
  rfl

theorem octStart_getElem (p : Bytes32) (i : Fin 8) : (octStart p)[i] = (p[i.val]'(by omega)).setWidth 64 :=
  Vector.getElem_ofFn _

theorem octWriteBack_low (p : Bytes32) (acc : Octonion) (i : Fin 8) :
    (octWriteBack p acc)[i.val]'(by omega) = (p[i.val]'(by omega)) ^^^ acc[i].setWidth 8 := by
  have hlow : acc[i].setWidth 8 = acc[i].extractLsb' 0 8 := BitVec.setWidth_eq_extractLsb' (by decide)
  rw [hlow]
  simp [octWriteBack]

theorem octWriteBack_high (p : Bytes32) (acc : Octonion) {i : Fin 32} (h : 8 ≤ i.val) :
    (octWriteBack p acc)[i] = p[i] := by
  simp [octWriteBack, Nat.not_lt.mpr h]

theorem complete_setOct_frame (s : State) (p q : Bytes32) : complete (s.setOct p q) =
    { s with prod := p, preoct := q, busy := false, done := true, latch := none, genmat := none } := rfl

theorem octStage_prod_low (k : ProtocolK) (s : State) (i : Fin 8) : (octStage k s).prod[i.val]'(by omega) =
    (s.prod[i.val]'(by omega)) ^^^ (octAccumulatorAfter k s.prod (octRounds k))[i].setWidth 8 := by
  rw [← octAccumulator_eq]
  exact octWriteBack_low s.prod _ i

theorem octStage_prod_high (k : ProtocolK) (s : State) {i : Fin 32} (h : 8 ≤ i.val) :
    (octStage k s).prod[i] = s.prod[i] :=
  octWriteBack_high s.prod _ h

end Sys2Proof.Machine

open Sys2Proof Sys2Proof.Machine in
/-- Settles O51: the accumulator's rounds and the bytes written back, low and high. -/
theorem octMixesTheFirstEightBytes : Obligations.OctMixesTheFirstEightBytes :=
  ⟨rfl, fun s => ⟨_, exec_oct s, complete_setOct_frame s _ _, octAccumulatorAfter Config.protocolK s.prod,
    octStart_getElem s.prod, fun r _ => octAccumulatorAfter_succ _ s.prod r, octStage_prod_low _ s,
    fun _ hi => octStage_prod_high _ s hi⟩⟩

end

section
/-! PROOFS. The S-box (43_sbox.md): SB0 entry by entry and the one or two refinement passes (R161-R164), and the
application to the chained-hash buffer, which undoes itself (R165). -/

namespace Sys2Proof.Machine

/-! ## SBOXGEN (43_sbox.md R161-R164) -/

theorem complete_setSb_frame (s : State) (t : Table) : complete (s.setSb t) =
    { s with sb := t, busy := false, done := true, latch := none, genmat := none } := rfl

theorem sboxInitial_getElem (k : ProtocolK) (b : Bufs) (i : Fin 256) : (sboxInitial k b)[i] = sboxEntry k b i :=
  Vector.getElem_ofFn _

/-- The two values of `K.SBOX_ITER_MAP` (43_sbox.md R163). -/
theorem refineTimes_sboxIters (k : ProtocolK) (b : Bufs) (t : Table) : refineTimes k b (sboxIters k b) t =
    if k.sboxIterLess1 b.p[k.sboxIterPos] = 0 then k.sboxRefine t b else k.sboxRefine (k.sboxRefine t b) b := by
  rw [sboxIters]
  obtain hone | htwo := Fin.exists_fin_two.mp ⟨k.sboxIterLess1 b.p[k.sboxIterPos], rfl⟩
  · rw [hone]
    rfl
  · rw [htwo]
    rfl

/-! ## SBOXAPP (43_sbox.md R165) -/

theorem complete_setChain_frame (s : State) (h : Bytes32) : complete (s.setChain h) =
    { s with chain := h, busy := false, done := true, latch := none, genmat := none } := rfl

theorem setChain_bufs (s : State) (h : Bytes32) : (s.setChain h).bufs = s.bufs := rfl

theorem Bytes32.eq_of_bytes {x y : Bytes32} (h : ∀ i : Fin 32, x[i] = y[i]) : x = y :=
  Vector.ext fun i hi => h ⟨i, hi⟩

section
variable (k : ProtocolK) (s : State)

theorem sboxappStage_chain_getElem (i : Fin 32) :
    (sboxappStage k s).chain[i] = s.chain[i] ^^^ s.sb[k.sappIdx i s.bufs] :=
  Vector.getElem_ofFn _

theorem sboxappStage_sb : (sboxappStage k s).sb = s.sb := setChain_sb s _

/-- H is none of the buffers that the lookup index reads (43_sbox.md R166). -/
theorem sboxappStage_bufs : (sboxappStage k s).bufs = s.bufs := setChain_bufs s _

theorem sboxappStage_chain_of_zero_table (hzero : s.sb = Vector.replicate 256 0#8) :
    (sboxappStage k s).chain = s.chain := by
  refine Bytes32.eq_of_bytes fun i => ?_
  have hentry : s.sb[k.sappIdx i s.bufs] = 0#8 := by
    rw [hzero]
    exact Vector.getElem_replicate _
  rw [sboxappStage_chain_getElem, hentry, BitVec.xor_zero]

/-- The second application looks up the same entries, and XOR cancels them. -/
theorem sboxappStage_chain_twice : (sboxappStage k (sboxappStage k s)).chain = s.chain := by
  refine Bytes32.eq_of_bytes fun i => ?_
  simp only [sboxappStage_chain_getElem, sboxappStage_sb, sboxappStage_bufs, xor_cancel_right]

end

end Sys2Proof.Machine

open Sys2Proof Sys2Proof.Machine in
/-- Settles O52: the table built from the buffers, and its one or two refinement passes. -/
theorem sboxgenBuildsAndRefines : Obligations.SboxgenBuildsAndRefines :=
  ⟨rfl, fun s => ⟨_, exec_sboxgen s, complete_setSb_frame s _, sboxInitial Config.protocolK s.bufs,
    sboxInitial_getElem _ s.bufs, refineTimes_sboxIters _ s.bufs _⟩⟩

open Sys2Proof Sys2Proof.Machine in
/-- Settles O53: each byte of H after one application and after two; completion between them changes no byte. -/
theorem sboxappIsAnInvolution : Obligations.SboxappIsAnInvolution := by
  refine ⟨rfl, fun s => ⟨_, _, exec_sboxapp s, exec_sboxapp _, complete_setChain_frame s _,
    sboxappStage_chain_getElem _ s, sboxappStage_chain_of_zero_table _ s, ?_⟩⟩
  rw [sboxappStage_complete, complete_complete, complete_chain]
  exact sboxappStage_chain_twice _ s

end

section
/-! PROOFS. ANTI, CHAIN and FOLD (44_hashing.md R180-R182): the buffer each writes, with the hash chain as an iterate of
`K.HCHAIN` and the fold byte by byte. -/

namespace Sys2Proof.Machine

theorem complete_setAux_frame (s : State) (a : Bytes32) : complete (s.setAux a) =
    { s with aux := a, busy := false, done := true, latch := none, genmat := none } := rfl

theorem complete_setResult_frame (s : State) (r : Bytes32) : complete (s.setResult r) =
    { s with result := r, busy := false, done := true, latch := none, genmat := none } := rfl

theorem hchainTimes_eq_iterate (k : ProtocolK) (n : Nat) (x : Bytes32) : hchainTimes k n x = k.hchain^[n] x := by
  induction n generalizing x with
  | zero => rfl
  | succ n ih => exact ih (k.hchain x)

/-- The start and the count both come from P, so the old H is not read (44_hashing.md R181). -/
theorem chainStage_chain (k : ProtocolK) (s : State) :
    (chainStage k s).chain = k.hchain^[(k.chainLess1 s.prod[k.chainPos]).val + 1] s.prod :=
  hchainTimes_eq_iterate k (chainCount k s.prod) s.prod

theorem xorBytes_getElem (x y : Bytes32) (i : Fin 32) : (xorBytes x y)[i] = x[i] ^^^ y[i] :=
  Vector.getElem_ofFn _

theorem foldStage_result (k : ProtocolK) (s : State) :
    (foldStage k s).result = k.hfinal (xorBytes s.chain s.aux) := setResult_result s _

end Sys2Proof.Machine

open Sys2Proof Sys2Proof.Machine in
/-- Settles O54: the stage writes A alone, and completion ends the command. -/
theorem antiWritesAux : Obligations.AntiWritesAux :=
  ⟨rfl, fun s => (exec_anti s).trans (congrArg Host.Outcome.next (complete_setAux_frame s _))⟩

open Sys2Proof Sys2Proof.Machine in
/-- Settles O55: the chain, hashed recursively, as an iterate of `K.HCHAIN` on P; completion leaves H. -/
theorem chainHashesOneToThreeTimes : Obligations.ChainHashesOneToThreeTimes :=
  ⟨rfl, fun s => ⟨_, exec_chain s, complete_setChain_frame s _, (complete_chain _).trans (chainStage_chain _ s)⟩⟩

open Sys2Proof Sys2Proof.Machine in
/-- Settles O56: the buffer hashed is the bytewise XOR of H and A; completion leaves R. -/
theorem foldWritesResult : Obligations.FoldWritesResult :=
  ⟨rfl, fun s => ⟨_, exec_fold s, complete_setResult_frame s _, xorBytes s.chain s.aux,
    xorBytes_getElem s.chain s.aux, (complete_result _).trans (foldStage_result _ s)⟩⟩

end

section
/-! PROOFS. The comparison (00_scope.md R11; 45_compare.md R190, R191): a number written in bytes, least significant
first, is ordered by the most significant byte in which two differ, that is colexicographically. -/

namespace Sys2Proof.Machine

/-! ## Numbers by their digits -/

/-- The most significant digit stands apart from the number that the others write. -/
theorem finFunctionFinEquiv_succ {b n : Nat} (f : Fin (n + 1) → Fin b) : (finFunctionFinEquiv f).val =
    (finFunctionFinEquiv fun k => f k.castSucc).val + (f (Fin.last n)).val * b ^ n := by
  simp only [finFunctionFinEquiv_apply]
  exact Fin.sum_univ_castSucc _

/-- By induction on the number of digits: a most significant digit that is smaller outweighs all those below it, and
one that is the same leaves the order to them. -/
theorem finFunctionFinEquiv_lt_of_top_difference {b n : Nat} {f g : Fin n → Fin b} {k : Fin n} (hk : f k < g k)
    (habove : ∀ j, k < j → f j = g j) : (finFunctionFinEquiv f).val < (finFunctionFinEquiv g).val := by
  induction n with
  | zero => exact k.elim0
  | succ n ih =>
    rw [finFunctionFinEquiv_succ, finFunctionFinEquiv_succ]
    cases k using Fin.lastCases with
    | last =>
      have hlow : (finFunctionFinEquiv fun j => f j.castSucc).val < b ^ n := Fin.isLt _
      calc (finFunctionFinEquiv fun j => f j.castSucc).val + (f (Fin.last n)).val * b ^ n
        _ < b ^ n + (f (Fin.last n)).val * b ^ n := Nat.add_lt_add_right hlow _
        _ = ((f (Fin.last n)).val + 1) * b ^ n := by ring
        _ ≤ (g (Fin.last n)).val * b ^ n := Nat.mul_le_mul_right _ hk
        _ ≤ (finFunctionFinEquiv fun j => g j.castSucc).val + (g (Fin.last n)).val * b ^ n := Nat.le_add_left _ _
    | cast k =>
      rw [habove (Fin.last n) (Fin.castSucc_lt_last k)]
      exact Nat.add_lt_add_right (ih hk fun j hj => habove j.castSucc hj) _

theorem finFunctionFinEquiv_strictMono (b n : Nat) :
    StrictMono fun f : Colex (Fin n → Fin b) => (finFunctionFinEquiv (ofColex f)).val :=
  fun _ _ ⟨_, habove, hk⟩ => finFunctionFinEquiv_lt_of_top_difference hk habove

theorem finFunctionFinEquiv_le_iff {b n : Nat} (f g : Fin n → Fin b) :
    (finFunctionFinEquiv f).val ≤ (finFunctionFinEquiv g).val ↔ f = g ∨ ∃ k, f k < g k ∧ ∀ j, k < j → f j = g j := by
  have hcolex : toColex f < toColex g ↔ ∃ k, f k < g k ∧ ∀ j, k < j → f j = g j :=
    exists_congr fun _ => and_comm
  rw [← hcolex, ← toColex_inj]
  exact (finFunctionFinEquiv_strictMono b n).le_iff_le.trans le_iff_eq_or_lt

/-! ## `LE256` and PASS -/

theorem le256_eq_sum (b : Bytes32) : le256 b = ∑ k : Fin 32, b[k].toNat * 2 ^ (8 * k.val) :=
  (Fin.sum_univ_def _).symm

/-- Byte `k` of a buffer as a digit to the base 256. -/
def byteDigit (b : Bytes32) (k : Fin 32) : Fin 256 := b[k].toFin

theorem byteDigit_lt_iff (x y : Bytes32) (k : Fin 32) : byteDigit x k < byteDigit y k ↔ x[k] < y[k] := Iff.rfl

theorem byteDigit_eq_iff (x y : Bytes32) (k : Fin 32) : byteDigit x k = byteDigit y k ↔ x[k] = y[k] := BitVec.toFin_inj

theorem byteDigit_injective : Function.Injective byteDigit := fun x y h =>
  Bytes32.eq_of_bytes fun k => (byteDigit_eq_iff x y k).mp (congrFun h k)

theorem le256_eq_sum_pow (b : Bytes32) : le256 b = ∑ k : Fin 32, b[k].toNat * 256 ^ k.val := by
  have hpow (k : Nat) : 2 ^ (8 * k) = 256 ^ k := pow_mul 2 8 k
  simp only [le256_eq_sum, hpow]

theorem le256_eq_finFunctionFinEquiv (b : Bytes32) : le256 b = (finFunctionFinEquiv (byteDigit b)).val := by
  rw [le256_eq_sum_pow, finFunctionFinEquiv_apply]
  rfl

theorem passFlag_iff (r t : Bytes32) : passFlag r t = true ↔ le256 r ≤ le256 t := decide_eq_true_iff

theorem cmpStage_pass (s : State) : (cmpStage s).pass = passFlag s.result s.target := setPass_pass s _

theorem complete_setPass_frame (s : State) (b : Bool) : complete (s.setPass b) =
    { s with pass := b, busy := false, done := true, latch := none, genmat := none } := rfl

theorem passFlag_iff_top_difference (r t : Bytes32) :
    passFlag r t = true ↔ r = t ∨ ∃ k : Fin 32, r[k] < t[k] ∧ ∀ j : Fin 32, k < j → r[j] = t[j] := by
  rw [passFlag_iff, le256_eq_finFunctionFinEquiv, le256_eq_finFunctionFinEquiv, finFunctionFinEquiv_le_iff,
    byteDigit_injective.eq_iff]
  simp only [byteDigit_lt_iff, byteDigit_eq_iff]

end Sys2Proof.Machine

open Sys2Proof.Machine in
/-- Settles O57: the stage writes PASS alone, and `LE256` is the sum of the bytes at their weights. -/
theorem cmpComparesLittleEndian : Obligations.CmpComparesLittleEndian := by
  refine ⟨rfl, fun s => ⟨_, exec_cmp s, ?_, ?_⟩⟩ <;> rw [complete_pass, cmpStage_pass]
  · exact complete_setPass_frame s (passFlag s.result s.target)
  · rw [passFlag_iff, le256_eq_sum_pow, le256_eq_sum_pow]

open Sys2Proof.Machine in
/-- Settles O58: `LE256` as a sum, and the order of two such sums by their most significant difference. -/
theorem comparisonIsMostSignificantByteFirst : Obligations.ComparisonIsMostSignificantByteFirst := by
  refine fun r t => ⟨?_, passFlag_iff_top_difference r t⟩
  rw [passFlag_iff, le256_eq_sum, le256_eq_sum]

end

section
/-! PROOFS. EVAL (45_compare.md R192): the pipeline stages read and write only the fields of the pipeline, so each
commutes with every update of the others, acceptance and completion among them; EVAL is the eight commands in a row. -/

namespace Sys2Proof.Machine

/-! ## The pipeline's fields and the others -/

/-- `r` with the fields that the stages read or write (45_compare.md R192) taken from `s`. -/
def State.pipelineOnto (s r : State) : State :=
  { r with m := s.m, digest := s.digest, target := s.target, prod := s.prod, nprod := s.nprod, preoct := s.preoct,
           sb := s.sb, aux := s.aux, chain := s.chain, result := s.result, pass := s.pass }

theorem State.setPass_pipelineOnto (s r : State) (b : Bool) :
    (s.pipelineOnto r).setPass b = (s.setPass b).pipelineOnto r := rfl

/-- What `f` leaves in the pipeline's fields depends on them alone, and it leaves the others. -/
def ActsOnPipeline (f : State → State) : Prop := ∀ s r : State, f (s.pipelineOnto r) = (f s).pipelineOnto r

/-- What `u` leaves in the fields outside the pipeline depends on them alone, and it leaves the pipeline's. -/
def ActsOutsidePipeline (u : State → State) : Prop := ∀ s r : State, u (s.pipelineOnto r) = s.pipelineOnto (u r)

theorem ActsOnPipeline.pipelineOnto_eq {f : State → State} (hf : ActsOnPipeline f) (s : State) :
    (f s).pipelineOnto s = f s :=
  (hf s s).symm

theorem ActsOnPipeline.comm {f u : State → State} (hf : ActsOnPipeline f) (hu : ActsOutsidePipeline u) (s : State) :
    f (u s) = u (f s) :=
  calc f (u s)
    _ = f (s.pipelineOnto (u s)) := congrArg f (hu s s)
    _ = (f s).pipelineOnto (u s) := hf s (u s)
    _ = u ((f s).pipelineOnto s) := (hu (f s) s).symm
    _ = u (f s) := congrArg u (hf.pipelineOnto_eq s)

theorem ActsOnPipeline.comp {f g : State → State} (hg : ActsOnPipeline g) (hf : ActsOnPipeline f) :
    ActsOnPipeline (g ∘ f) :=
  fun s r => (congrArg g (hf s r)).trans (hg (f s) r)

/-! ## The stages -/

section
variable (k : ProtocolK)

theorem mvmulStage_actsOnPipeline : ActsOnPipeline (mvmulStage k) := fun _ _ => rfl
theorem octStage_actsOnPipeline : ActsOnPipeline (octStage k) := fun _ _ => rfl
theorem sboxgenStage_actsOnPipeline : ActsOnPipeline (sboxgenStage k) := fun _ _ => rfl
theorem antiStage_actsOnPipeline : ActsOnPipeline (antiStage k) := fun _ _ => rfl
theorem chainStage_actsOnPipeline : ActsOnPipeline (chainStage k) := fun _ _ => rfl
theorem sboxappStage_actsOnPipeline : ActsOnPipeline (sboxappStage k) := fun _ _ => rfl
theorem foldStage_actsOnPipeline : ActsOnPipeline (foldStage k) := fun _ _ => rfl
theorem cmpStage_actsOnPipeline : ActsOnPipeline cmpStage := fun s r =>
  State.setPass_pipelineOnto s r (passFlag s.result s.target)

theorem evalStages_actsOnPipeline : ActsOnPipeline (evalStages k) :=
  cmpStage_actsOnPipeline.comp <| (foldStage_actsOnPipeline k).comp <| (sboxappStage_actsOnPipeline k).comp <|
    (chainStage_actsOnPipeline k).comp <| (antiStage_actsOnPipeline k).comp <| (sboxgenStage_actsOnPipeline k).comp <|
    (octStage_actsOnPipeline k).comp (mvmulStage_actsOnPipeline k)

end

/-! ## What a command does around its stage -/

theorem accept_nextSlot_actsOutsidePipeline (i : Instr) (rest : List Slot) :
    ActsOutsidePipeline fun s => accept (nextSlot s rest) i := fun _ _ => rfl

theorem complete_nextSlot_actsOutsidePipeline (rest : List Slot) :
    ActsOutsidePipeline fun s => complete (nextSlot s rest) := fun _ _ => rfl

theorem setSeedGenMvalid_actsOutsidePipeline (x : Bytes32) (a b c d : Word64) (v : Bool) :
    ActsOutsidePipeline fun s => { s with seed := x, s0 := a, s1 := b, s2 := c, s3 := d, mvalid := v } :=
  fun _ _ => rfl

/-- Completion drops what acceptance wrote (10_state.md R43, R44). -/
theorem complete_accept (s : State) (i : Instr) : complete (accept s i) = complete s := rfl

theorem complete_nextSlot_complete_nextSlot (s : State) (waiting rest : List Slot) :
    complete (nextSlot (complete (nextSlot s waiting)) rest) = complete (nextSlot s rest) := rfl

/-! ## Commands in a row -/

/-- The command `i` runs the stage `f` of the pipeline and completes (10_state.md R44). -/
structure RunsStage (i : Instr) (f : State → State) : Prop where
  actsOnPipeline : ActsOnPipeline f
  exec_eq : ∀ s, exec i s = .next (complete (f s))

/-- The eight stage commands in the order of EVAL, each with its stage (45_compare.md R192). -/
def stageCommands : List (Instr × (State → State)) :=
  [(.mvmul, mvmulStage Config.protocolK), (.oct, octStage Config.protocolK), (.sboxgen, sboxgenStage Config.protocolK),
   (.anti, antiStage Config.protocolK), (.chain, chainStage Config.protocolK),
   (.sboxapp, sboxappStage Config.protocolK), (.fold, foldStage Config.protocolK), (.cmp, cmpStage)]

/-- The stages of a list of commands, one after the other. -/
def runStages (cs : List (Instr × (State → State))) (s : State) : State := cs.foldl (fun t c => c.2 t) s

theorem runStages_stageCommands (s : State) : runStages stageCommands s = evalStages Config.protocolK s := rfl

theorem runsStage_of_mem_stageCommands : ∀ c ∈ stageCommands, RunsStage c.1 c.2 := by
  simp only [stageCommands, List.forall_mem_cons, List.not_mem_nil, false_imp_iff, implies_true, and_true]
  exact ⟨⟨mvmulStage_actsOnPipeline _, exec_mvmul⟩, ⟨octStage_actsOnPipeline _, exec_oct⟩,
    ⟨sboxgenStage_actsOnPipeline _, exec_sboxgen⟩, ⟨antiStage_actsOnPipeline _, exec_anti⟩,
    ⟨chainStage_actsOnPipeline _, exec_chain⟩, ⟨sboxappStage_actsOnPipeline _, exec_sboxapp⟩,
    ⟨foldStage_actsOnPipeline _, exec_fold⟩, ⟨cmpStage_actsOnPipeline, exec_cmp⟩⟩

theorem runsStage_eval : RunsStage .eval (evalStages Config.protocolK) :=
  ⟨evalStages_actsOnPipeline _, exec_eval⟩

/-- A slot that issues a stage's command leaves what the stage leaves, with the command complete. -/
theorem RunsStage.step_eq {i : Instr} {f : State → State} (h : RunsStage i f) {s : State} (hb : s.busy = false)
    (rest : List Slot) :
    step { s with inputs := commandSlot (encode i) :: rest } = .next (complete (nextSlot (f s) rest)) := by
  have hcomm : f (accept (nextSlot s rest) i) = accept (nextSlot (f s) rest) i :=
    h.actsOnPipeline.comm (accept_nextSlot_actsOutsidePipeline i rest) s
  have hstep : step { s with inputs := commandSlot (encode i) :: rest } = exec i (accept (nextSlot s rest) i) :=
    step_of_legal_word hb (decode_encode i) rfl
  rw [hstep, h.exec_eq, hcomm, complete_accept]

/-- The slots in which the host issues the commands of `cs` one by one. -/
def issueSlots (cs : List (Instr × (State → State))) : List Slot := cs.map fun c => commandSlot (encode c.1)

/-- Commands issued one by one after another has completed, by induction on their list: what a completion writes, and
the schedule, commute with each stage and are written again by the next completion. -/
theorem runSteps_commands_of_completed {cs : List (Instr × (State → State))} (h : ∀ c ∈ cs, RunsStage c.1 c.2)
    (s : State) (rest : List Slot) : runSteps cs.length (complete (nextSlot s (issueSlots cs ++ rest))) =
      .next (complete (nextSlot (runStages cs s) rest)) := by
  induction cs generalizing s with
  | nil => rfl
  | cons c cs ih =>
    obtain ⟨hc, hcs⟩ := List.forall_mem_cons.mp h
    have hstep : step (complete (nextSlot s (issueSlots (c :: cs) ++ rest))) =
        .next (complete (nextSlot (c.2 s) (issueSlots cs ++ rest))) := by
      refine (hc.step_eq (complete_busy (nextSlot s (issueSlots (c :: cs) ++ rest)))
        (issueSlots cs ++ rest)).trans ?_
      rw [hc.actsOnPipeline.comm (complete_nextSlot_actsOutsidePipeline _), complete_nextSlot_complete_nextSlot]
    exact (runSteps_succ _ hstep).trans (ih hcs (c.2 s))

/-- Commands issued one by one from BUSY = 0, at least one. -/
theorem runSteps_commands {c : Instr × (State → State)} {cs : List (Instr × (State → State))}
    (h : ∀ c' ∈ c :: cs, RunsStage c'.1 c'.2) {s : State} (hb : s.busy = false) (rest : List Slot) :
    runSteps (c :: cs).length { s with inputs := issueSlots (c :: cs) ++ rest } =
      .next (complete (nextSlot (runStages (c :: cs) s) rest)) := by
  obtain ⟨hc, hcs⟩ := List.forall_mem_cons.mp h
  exact (runSteps_succ _ (hc.step_eq hb _)).trans (runSteps_commands_of_completed hcs (c.2 s) rest)

/-! ## The states the commands leave -/

/-- Completion after each stage comes to one completion after all (45_compare.md R192). -/
theorem complete_between_stages (k : ProtocolK) (s : State) :
    complete (cmpStage (complete (foldStage k (complete (sboxappStage k (complete (chainStage k (complete (antiStage k
      (complete (sboxgenStage k (complete (octStage k (complete (mvmulStage k s))))))))))))))) =
      complete (evalStages k s) := by
  simp only [octStage_complete, sboxgenStage_complete, antiStage_complete, chainStage_complete,
    sboxappStage_complete, foldStage_complete, cmpStage_complete, complete_complete, evalStages_eq]

theorem complete_evalStages_frame (k : ProtocolK) (s : State) {t : State} (ht : t = complete (evalStages k s)) :
    t = { s with prod := t.prod, nprod := t.nprod, preoct := t.preoct, sb := t.sb, aux := t.aux, chain := t.chain,
                 result := t.result, pass := t.pass, busy := false, done := true, latch := none, genmat := none } := by
  obtain ⟨p, n, q, sb, a, h, r, b, hframe⟩ := evalStages_frame k s
  rw [hframe] at ht
  subst ht
  rfl

end Sys2Proof.Machine

open Sys2Proof Sys2Proof.Machine in
/-- Settles O59: completions between the stages come to one at the end; the registers EVAL does not read lie outside the
pipeline. -/
theorem evalIsTheEightStages : Obligations.EvalIsTheEightStages := by
  refine ⟨rfl, fun s => ⟨_, _, _, _, _, _, _, complete (evalStages Config.protocolK s), exec_mvmul s, exec_oct _,
    exec_sboxgen _, exec_anti _, exec_chain _, exec_sboxapp _, exec_fold _,
    (exec_cmp _).trans (congrArg Host.Outcome.next (complete_between_stages _ s)), exec_eval s,
    complete_evalStages_frame _ s rfl, fun x a b c d v => ?_⟩⟩
  have hcomm := (evalStages_actsOnPipeline Config.protocolK).comm (setSeedGenMvalid_actsOutsidePipeline x a b c d v) s
  exact (exec_eval _).trans (congrArg (Host.Outcome.next ∘ complete) hcomm)

open Sys2Proof Sys2Proof.Machine in
/-- Settles O60: both runs end with the eight stages of the state, one completion after them, and the schedule left. -/
theorem evalEqualsEightIssuedCommands : Obligations.EvalEqualsEightIssuedCommands := by
  intro s rest hb
  have hissued : runSteps 8 { s with inputs := issueSlots stageCommands ++ rest } =
      .next (complete (nextSlot (runStages stageCommands s) rest)) :=
    runSteps_commands runsStage_of_mem_stageCommands hb rest
  rw [runSteps_one, runsStage_eval.step_eq hb, ← runStages_stageCommands]
  exact hissued

end

section
/-! PROOFS. The control commands (46_control.md R200, R201): what the end of a command and of ACK leave, the interrupt
output they leave (60_exceptions.md R220), and the refusal of a busy location (60_exceptions.md R212). -/

namespace Sys2Proof.Machine

/-! ## The end of a command -/

theorem complete_frame (s : State) : complete s =
    { s with busy := false, done := true, latch := none, genmat := none } := rfl

/-- What ACK leaves, whole (46_control.md R201). -/
theorem retire_clearError_frame (s : State) : retire (clearError s) =
    { s with errcode := 0#8, errinfo := 0#32, eovf := false, busy := false, latch := none, genmat := none } := rfl

/-! ## The interrupt output (60_exceptions.md R220) -/

/-- A completed command sets DONE, so IRQ is then IE. -/
theorem complete_irq (s : State) : (complete s).irq = s.ie := by
  rw [State.irq, complete_done, complete_ie, Bool.true_and]

theorem irq_of_not_done {s : State} (h : s.done = false) : s.irq = false := by
  rw [State.irq, h, Bool.false_and]

/-! ## A write while BUSY = 1 (60_exceptions.md R212) -/

/-- While BUSY = 1 a write to a location that is not accessible then is refused with BUSY_ACCESS. -/
theorem busWrite_addrOf_of_busy {s : State} {l : Loc} (hb : s.busy = true) (hl : openWhileBusy l = false)
    (v : Word32) : busWrite s (addrOf l) v = raiseError s codeBusyAccess (accessInfo true (addrOf l)) := by
  have hblocked {l' : Loc} (hloc : locate (addrOf l) = some l') (ho : s.busy = true → openWhileBusy l' = true) :
      False := by
    obtain rfl : l = l' := Option.some.inj ((locate_addrOf l).symm.trans hloc)
    exact absurd ((ho hb).symm.trans hl) (by decide)
  obtain ⟨hn, -⟩ | ⟨-, -, -, -, hw⟩ | ⟨l', hloc, ho, -⟩ | ⟨l', hloc, ho, -⟩ := busWrite_cases s (addrOf l) v
  · simp [locate_addrOf] at hn
  · exact hw
  · exact (hblocked hloc ho).elim
  · exact (hblocked hloc ho).elim

/-- CMD is not accessible while BUSY = 1, whatever the word (60_exceptions.md R212). -/
theorem errorRecorded_busWrite_cmd {s : State} (hb : s.busy = true) (v : Word32) :
    ErrorRecorded s (busWrite s (addrOf .cmd) v) codeBusyAccess (accessInfo true (addrOf .cmd)) := by
  rw [busWrite_addrOf_of_busy hb rfl]
  exact errorRecorded_raiseError s _ _

end Sys2Proof.Machine

open Sys2Proof.Machine in
/-- Settles O30: NOP is its completion alone, and its word is refused as any word written to a busy CMD. -/
theorem nopOnlyCompletes : Obligations.NopOnlyCompletes :=
  ⟨rfl, fun s => ⟨⟨_, exec_nop s, complete_frame s, (complete_irq s).trans⟩,
    fun hb => errorRecorded_busWrite_cmd hb 0x00000000#32⟩⟩

open Sys2Proof.Machine in
/-- Settles O31: ACK clears the error record and ends without writing DONE, so a DONE cleared at acceptance drops IRQ. -/
theorem ackClearsTheErrorRecord : Obligations.AckClearsTheErrorRecord :=
  ⟨rfl, fun s => ⟨_, exec_ack s, retire_clearError_frame s, fun hdone =>
    irq_of_not_done (((retire_done _).trans (clearError_done s)).trans hdone)⟩⟩

end

section
/-! PROOFS. Running on and resetting (60_exceptions.md R214, R215; 70_reset_and_hazards.md R240, R241): the sequencer's
turn answers a next state wherever BUSY and LATCH agree, so every run from the invariant goes on; and every word of the
reset state but ID reads 0. -/

namespace Sys2Proof.Machine

/-! ## Every step from the invariant answers a next state -/

theorem exec_next (i : Instr) (s : State) : ∃ t, exec i s = .next t :=
  let ⟨t, ht, _⟩ := commandsComplete i s
  ⟨t, ht⟩

/-- BUSY = 1 with an empty LATCH, the one state the sequencer stops in, is outside the invariant. -/
theorem StateInv.sequencerTurn_next {s : State} (h : StateInv s) : ∃ t, Machine.sequencerTurn s = .next t := by
  obtain ⟨-, hs⟩ | ⟨i, -, -, hs⟩ | ⟨hb, hl, -⟩ := sequencerTurn_cases s
  · exact ⟨s, hs⟩
  · rw [hs]
    exact exec_next i s
  · have hagree := h.latch_holds
    simp [hb, hl] at hagree

theorem StateInv.goesOn {s : State} (h : StateInv s) : GoesOn s := by
  obtain ⟨-, hs⟩ | ⟨slot, rest, -, -, hs⟩ | ⟨slot, rest, -, -, hs⟩ := step_cases s
  · exact ⟨_, hs⟩
  · exact ⟨_, hs⟩
  · rw [GoesOn, hs]
    exact ((h.nextSlot rest).hostEvent slot.event).sequencerTurn_next

/-- A run from the invariant is never cut short, and it ends in the invariant. -/
theorem StateInv.runSteps {s : State} (h : StateInv s) (n : Nat) :
    ∃ t, Machine.runSteps n s = .next t ∧ StateInv t := by
  induction n generalizing s with
  | zero => exact ⟨s, rfl, h⟩
  | succ n ih =>
    obtain ⟨u, hu⟩ := h.goesOn
    rw [runSteps_succ n hu]
    exact ih (h.step hu)

/-! ## The words of the reset state -/

theorem bufWord_zero (w : Fin 8) : bufWord (Vector.replicate 32 0#8) w = 0#32 := by
  simp [bufWord, wordOfBytes]

theorem tableWord_zero (w : Fin 64) : tableWord (Vector.replicate 256 0#8) w = 0#32 := by
  simp [tableWord, wordOfBytes]

theorem matrixWord_zero (r : Fin 64) (w : Fin 16) :
    matrixWord (Vector.replicate 64 (Vector.replicate 64 0#4)) r w = 0#32 := by
  simp [matrixWord, wordOfBytes, entryByte]

theorem halfWord_zero (hi : Bool) : halfWord 0#64 hi = 0#32 := by
  cases hi <;> rfl

theorem resetAll_reg64 (s : State) (r : Reg64) : (resetAll s).reg64 r = 0#64 := by
  cases r <;> rfl

theorem resetAll_buf (s : State) (b : Buf) : (resetAll s).buf b = Vector.replicate 32 0#8 := by
  cases b <;> rfl

theorem resetAll_statusWord (s : State) : (resetAll s).statusWord = 0#32 :=
  BitVec.eq_of_toNat_eq (by simp [statusWord_toNat])

theorem resetAll_ctrlWord (s : State) : (resetAll s).ctrlWord = 0#32 :=
  BitVec.eq_of_toNat_eq (by simp [ctrlWord_toNat])

/-- After a reset every word but ID's constant is 0 (70_reset_and_hazards.md R240). -/
theorem readLoc_resetAll (s : State) (l : Loc) : readLoc (resetAll s) l = if l = .id then idWord else 0#32 := by
  cases l with
  | id | cmd | rank | attempts | cap | errinfo => rfl
  | status => exact resetAll_statusWord s
  | ctrl => exact resetAll_ctrlWord s
  | reg64 r hi => simp [readLoc, resetAll_reg64, halfWord_zero]
  | buf b w => simp [readLoc, resetAll_buf, bufWord_zero]
  | sb w => simp [readLoc, tableWord_zero]
  | matrix r w => simp [readLoc, matrixWord_zero]

theorem resetAll_irq (s : State) : (resetAll s).irq = false :=
  irq_of_not_done (resetAll_done s)

end Sys2Proof.Machine

open Sys2Proof.Machine in
/-- Settles O25: one step goes on by the agreement of BUSY and LATCH, and a run by induction on its steps. -/
theorem machineNeverStops : Obligations.MachineNeverStops :=
  fun _ h => ⟨h.goesOn, h.runSteps⟩

open Sys2Proof.Machine in
/-- Settles O23: the reset state is what a reset leaves of itself. -/
theorem resetMeetsTheInvariant : Obligations.ResetMeetsTheInvariant := stateInv_resetAll State.reset

open Sys2Proof.Machine in
/-- Settles O18: both resets leave `resetAll`, and its words are read one location at a time. -/
theorem resetClearsTheBlock : Obligations.ResetClearsTheBlock :=
  fun s _ hv => ⟨busWrite_softReset s hv, rfl, resetAll_busy s, resetAll_latch s, resetAll_irq s, readLoc_resetAll s⟩

open Sys2Proof.Machine in
/-- Settles O19: DONE = 0 drops IRQ after acceptance, reset and ACK; the write to CTRL with bit 0 clear drops it through
IE alone. -/
theorem interruptIsDoneAndEnabled : Obligations.InterruptIsDoneAndEnabled := by
  intro s
  have hmask : busWrite s (addrOf .ctrl) 0#32 = { s with ie := false } := busWrite_ctrl s rfl
  have hack (hdone : s.done = false) : (retire (clearError s)).irq = false := irq_of_not_done hdone
  refine ⟨Bool.and_eq_true_iff, fun i => irq_of_not_done (accept_done s i), resetAll_irq s,
    fun hdone => ⟨_, exec_ack s, hack hdone⟩, (congrArg State.irq hmask).trans (Bool.and_false s.done),
    congrArg (·.done) hmask⟩

end

section
/-! PROOFS. The bus errors (60_exceptions.md R210-R212): each refusal at a location's own address or outside the rows
raises its own error, and an Illegal word raises one that sets DONE. -/

namespace Sys2Proof.Machine

/-! ## The checks of R212, one refusal each -/

theorem busRead_unmapped (s : State) {a : Addr} (h : ¬ mappedWord a) : busRead s a =
    { raiseError s codeBusUnmapped (accessInfo false a) with rdata := some 0#32 } := by
  simp only [busRead, (locate_eq_none_iff a).mpr h]

theorem busWrite_unmapped (s : State) {a : Addr} (h : ¬ mappedWord a) (v : Word32) :
    busWrite s a v = raiseError s codeBusUnmapped (accessInfo true a) := by
  simp only [busWrite, (locate_eq_none_iff a).mpr h]

/-- While BUSY = 1 a read of a location that is not accessible then is refused with BUSY_ACCESS and returns 0. -/
theorem busRead_addrOf_of_busy {s : State} {l : Loc} (hb : s.busy = true) (hl : openWhileBusy l = false) :
    busRead s (addrOf l) =
      { raiseError s codeBusyAccess (accessInfo false (addrOf l)) with rdata := some 0#32 } := by
  simp [busRead, locate_addrOf, hb, hl]

/-- A read-only location that is accessible refuses a write with RO_WRITE. -/
theorem busWrite_addrOf_of_readOnly {s : State} {l : Loc} (h : s.busy = true → openWhileBusy l = true)
    (hro : readOnly l = true) (v : Word32) :
    busWrite s (addrOf l) v = raiseError s codeRoWrite (accessInfo true (addrOf l)) := by
  have haccess : ¬ (s.busy = true ∧ openWhileBusy l = false) := fun ⟨hb, hl⟩ => by simp [h hb] at hl
  simp [busWrite, locate_addrOf, haccess, hro]

/-- The read-only locations are those at the addresses marked RO (10_state.md R22). -/
theorem readOnly_iff_readOnlyAddress (l : Loc) : readOnly l = true ↔ readOnlyAddress (addrOf l) := by
  constructor
  · intro h
    cases l with
    | id | status | rank | attempts | errinfo => decide
    | _ => cases h
  · rintro (h | h | h | h | h)
    · rw [addrOf_injective (show addrOf l = addrOf .id from h), readOnly]
    · rw [addrOf_injective (show addrOf l = addrOf .status from h), readOnly]
    · rw [addrOf_injective (show addrOf l = addrOf .rank from h), readOnly]
    · rw [addrOf_injective (show addrOf l = addrOf .attempts from h), readOnly]
    · rw [addrOf_injective (show addrOf l = addrOf .errinfo from h), readOnly]

/-! ## An Illegal word (60_exceptions.md R211) -/

theorem busWrite_cmd_illegal {s : State} {w : Word32} (hb : s.busy = false) (h : ∀ i, decode w ≠ .ok i) :
    busWrite s (addrOf .cmd) w = { raiseError s codeIllegalCmd w with done := true } := by
  rw [busWrite_addrOf (by simp [hb]) rfl, writeLoc]
  obtain ⟨i, hi, -⟩ | ⟨-, -, hw⟩ := writeCmd_cases s w
  · exact absurd hi (h i)
  · exact hw

end Sys2Proof.Machine

open Sys2Proof.Machine in
/-- Settles O7: an unmapped address is refused; a mapped one is a location's, with the checks on that location. -/
theorem accessChecksInOrder : Obligations.AccessChecksInOrder := by
  intro s a v
  refine ⟨fun hunmapped => ?_, fun hmapped hb hclosed => ?_, fun hmapped hopen => ?_⟩
  · rw [busRead_unmapped s hunmapped, busWrite_unmapped s hunmapped]
    exact ⟨⟨_, errorRecorded_raiseError s _ _, rfl⟩, errorRecorded_raiseError s _ _⟩
  · obtain ⟨l, rfl⟩ := exists_addrOf_of_mappedWord hmapped
    have hl : openWhileBusy l = false := Bool.eq_false_iff.mpr (mt (openWhileBusy_iff_openAddress l).mp hclosed)
    rw [busRead_addrOf_of_busy hb hl, busWrite_addrOf_of_busy hb hl]
    exact ⟨⟨_, errorRecorded_raiseError s _ _, rfl⟩, errorRecorded_raiseError s _ _⟩
  · obtain ⟨l, rfl⟩ := exists_addrOf_of_mappedWord hmapped
    have haccess (hb : s.busy = true) : openWhileBusy l = true := (openWhileBusy_iff_openAddress l).mpr (hopen hb)
    refine ⟨⟨l, rfl, busRead_addrOf haccess, fun hrw => ?_⟩, fun hro => ?_⟩
    · exact busWrite_addrOf haccess (Bool.eq_false_iff.mpr (mt (readOnly_iff_readOnlyAddress l).mp hrw)) v
    · rw [busWrite_addrOf_of_readOnly haccess ((readOnly_iff_readOnlyAddress l).mpr hro)]
      exact errorRecorded_raiseError s _ _

open Sys2Proof.Machine in
/-- Settles O16: with BUSY = 0 the write reaches CMD and the word is Illegal; with BUSY = 1 it does not reach CMD. -/
theorem illegalWordIsRejected : Obligations.IllegalWordIsRejected := by
  intro s w
  refine ⟨fun hb hillegal => ?_, fun hb => errorRecorded_busWrite_cmd hb w⟩
  have hwrite := busWrite_cmd_illegal hb hillegal
  refine ⟨_, errorRecorded_raiseError s _ w, hwrite, (congrArg State.irq hwrite).trans ?_⟩
  exact (Bool.true_and _).trans (raiseError_ie s _ w)

end

section
/-! PROOFS. The recorded error along the steps (60_exceptions.md R214): an event is a reset, an acceptance, or leaves the
recorded error and the command in flight; of the commands only ACK clears the error. -/

namespace Sys2Proof.Machine

/-- The recorded error: its code and its information (10_state.md R34, R37). -/
def recordedError (s : State) : Byte × Word32 := (s.errcode, s.errinfo)

theorem recordedError_eq_iff (s t : State) :
    recordedError t = recordedError s ↔ t.errcode = s.errcode ∧ t.errinfo = s.errinfo := Prod.mk_inj

theorem recordedError_raiseError {s : State} (h : s.errcode ≠ 0#8) (code : Byte) (info : Word32) :
    recordedError (raiseError s code info) = recordedError s := by
  rw [raiseError_later h, recordedError, recordedError]

/-! ## Events -/

/-- The resets the host can make: the reset input, and a write to CTRL with bit 1 set (70_reset_and_hazards.md R240,
R241). -/
def IsReset (e : HostEvent) : Prop := e = .reset ∨ ∃ v, e = .write (addrOf .ctrl) v ∧ v.getLsbD 1 = true

/-- From `s` to `t` the command in flight is the same, and an error recorded in `s` stays. -/
structure KeepsFlightAndError (s t : State) : Prop where
  busy : t.busy = s.busy
  latch : t.latch = s.latch
  error : s.errcode ≠ 0#8 → recordedError t = recordedError s

theorem KeepsFlightAndError.refl (s : State) : KeepsFlightAndError s s := ⟨rfl, rfl, fun _ => rfl⟩

theorem keepsFlightAndError_raiseError (s : State) (code : Byte) (info : Word32) :
    KeepsFlightAndError s (raiseError s code info) :=
  ⟨raiseError_busy s code info, raiseError_latch s code info, fun h => recordedError_raiseError h code info⟩

theorem keepsFlightAndError_setReg64 (s : State) (r : Reg64) (x : Word64) : KeepsFlightAndError s (s.setReg64 r x) :=
  ⟨setReg64_busy s r x, setReg64_latch s r x, fun _ => by simp [recordedError]⟩

theorem keepsFlightAndError_setBuf (s : State) (b : Buf) (x : Bytes32) : KeepsFlightAndError s (s.setBuf b x) :=
  ⟨setBuf_busy s b x, setBuf_latch s b x, fun _ => by simp [recordedError]⟩

theorem KeepsFlightAndError.setDone {s t : State} (h : KeepsFlightAndError s t) (b : Bool) :
    KeepsFlightAndError s { t with done := b } := ⟨h.busy, h.latch, h.error⟩

theorem KeepsFlightAndError.setRdata {s t : State} (h : KeepsFlightAndError s t) (x : Option Word32) :
    KeepsFlightAndError s { t with rdata := x } := ⟨h.busy, h.latch, h.error⟩

theorem busRead_keepsFlightAndError (s : State) (a : Addr) : KeepsFlightAndError s (busRead s a) := by
  obtain ⟨-, h⟩ | ⟨_, -, -, -, h⟩ | ⟨_, -, -, h⟩ := busRead_cases s a <;> rw [h]
  · exact (keepsFlightAndError_raiseError s _ _).setRdata _
  · exact (keepsFlightAndError_raiseError s _ _).setRdata _
  · exact (KeepsFlightAndError.refl s).setRdata _

/-- A write that reaches its location: CTRL can reset and CMD can accept; no other location holds the command in flight
or the recorded error. -/
theorem writeLoc_keepsFlightAndError (s : State) (l : Loc) (v : Word32) :
    (l = .ctrl ∧ v.getLsbD 1 = true) ∨ (∃ i, l = .cmd ∧ decode v = .ok i ∧ writeLoc s l v = accept s i) ∨
      KeepsFlightAndError s (writeLoc s l v) := by
  cases l with
  | ctrl =>
    obtain ⟨hv, -⟩ | ⟨-, hw⟩ := writeCtrl_cases s v
    · exact .inl ⟨rfl, hv⟩
    · exact .inr (.inr (by rw [writeLoc, hw]; exact ⟨rfl, rfl, fun _ => rfl⟩))
  | cmd =>
    obtain ⟨i, hi, hw⟩ | ⟨-, -, hw⟩ := writeCmd_cases s v
    · exact .inr (.inl ⟨i, rfl, hi, hw⟩)
    · exact .inr (.inr (by rw [writeLoc, hw]; exact (keepsFlightAndError_raiseError s _ _).setDone true))
  | id | status | rank | attempts | errinfo => exact .inr (.inr (.refl s))
  | cap | sb | matrix => exact .inr (.inr ⟨rfl, rfl, fun _ => rfl⟩)
  | reg64 r hi => exact .inr (.inr (keepsFlightAndError_setReg64 s r _))
  | buf b w => exact .inr (.inr (keepsFlightAndError_setBuf s b _))

/-- Everything an event can do to the command in flight and the recorded error: reset the block, accept a command with
BUSY = 0, or leave both. -/
theorem hostEvent_cases (s : State) (e : HostEvent) :
    IsReset e ∨
      (∃ w i, s.busy = false ∧ e = .write (addrOf .cmd) w ∧ decode w = .ok i ∧ hostEvent s e = accept s i) ∨
      KeepsFlightAndError s (hostEvent s e) := by
  cases e with
  | idle => exact .inr (.inr (.refl s))
  | read a => exact .inr (.inr (busRead_keepsFlightAndError s a))
  | reset => exact .inl (.inl rfl)
  | write a v =>
    have hrefused {code : Byte} {info : Word32} (h : busWrite s a v = raiseError s code info) :
        KeepsFlightAndError s (hostEvent s (.write a v)) := by
      rw [hostEvent, h]
      exact keepsFlightAndError_raiseError s code info
    obtain ⟨-, h⟩ | ⟨-, -, -, -, h⟩ | ⟨-, -, -, -, h⟩ | ⟨l, hl, ho, -, h⟩ := busWrite_cases s a v
    · exact .inr (.inr (hrefused h))
    · exact .inr (.inr (hrefused h))
    · exact .inr (.inr (hrefused h))
    · obtain rfl := eq_addrOf_of_locate hl
      obtain ⟨rfl, hv⟩ | ⟨i, rfl, hi, hw⟩ | hkeeps := writeLoc_keepsFlightAndError s l v
      · exact .inl (.inr ⟨v, rfl, hv⟩)
      · have hb : s.busy = false := Bool.eq_false_iff.mpr fun hb => absurd (ho hb) (by decide)
        exact .inr (.inl ⟨v, i, hb, rfl, hi, h.trans hw⟩)
      · exact .inr (.inr (by rw [hostEvent, h]; exact hkeeps))

/-! ## Commands and the sequencer's turn -/

theorem genmatAttempt_recordedError {s : State} (h : s.errcode ≠ 0#8) :
    recordedError (genmatAttempt s) = recordedError s := by
  obtain ⟨-, ha⟩ | ⟨-, -, -, ha⟩ | ⟨-, -, ha⟩ := genmatAttempt_cases s <;> rw [ha]
  · simp [recordedError]
  · have hcommit : (genmatCommit s).errcode ≠ 0#8 := by rwa [genmatCommit_errcode]
    exact (recordedError_raiseError hcommit _ _).trans (by simp [recordedError])
  · rfl

theorem exec_recordedError {s t : State} {i : Instr} (h : s.errcode ≠ 0#8) (ht : exec i s = .next t)
    (hack : i ≠ .ack) : recordedError t = recordedError s := by
  obtain ⟨-, he⟩ | ⟨hi, -⟩ | ⟨-, he⟩ | ⟨-, u, he, hu⟩ := exec_cases i s
  · cases he.symm.trans ht
    exact genmatAttempt_recordedError h
  · exact absurd hi hack
  · cases he.symm.trans ht
    rfl
  · cases he.symm.trans ht
    simp only [invFields, Prod.mk.injEq] at hu
    obtain ⟨-, -, -, -, -, hcode, hinfo, -⟩ := hu
    exact (recordedError_eq_iff s u).mpr ⟨hcode, hinfo⟩

/-- Only the turn of an ACK in flight clears the recorded error. -/
theorem sequencerTurn_recordedError {s t : State} (h : s.errcode ≠ 0#8) (ht : sequencerTurn s = .next t) :
    recordedError t = recordedError s ∨ (s.busy = true ∧ s.latch = some .ack) := by
  obtain ⟨-, hs⟩ | ⟨i, hb, hl, hs⟩ | ⟨-, -, hs⟩ := sequencerTurn_cases s
  · cases hs.symm.trans ht
    exact .inl rfl
  · by_cases hack : i = .ack
    · exact .inr ⟨hb, hack ▸ hl⟩
    · exact .inl (exec_recordedError h (hs.symm.trans ht) hack)
  · cases hs.symm.trans ht

/-! ## One slot -/

/-- The slot `slot` from `s` clears the recorded error: its event is a reset, or in its turn an ACK completes, the one in
flight or the one its event has accepted. -/
def ClearsError (s : State) (slot : Slot) : Prop :=
  IsReset slot.event ∨
    (slot.tick = true ∧
      ((s.busy = true ∧ s.latch = some .ack) ∨
        (s.busy = false ∧ ∃ w, slot.event = .write (addrOf .cmd) w ∧ decode w = .ok .ack)))

/-- The event of a slot leaves the recorded error, or is a reset. -/
theorem hostEvent_recordedError {s : State} (h : s.errcode ≠ 0#8) (e : HostEvent) :
    IsReset e ∨ recordedError (hostEvent s e) = recordedError s := by
  obtain hreset | ⟨_, i, -, -, -, he⟩ | hkeeps := hostEvent_cases s e
  · exact .inl hreset
  · exact .inr (by rw [he]; rfl)
  · exact .inr (hkeeps.error h)

/-- An ACK in flight after an event was in flight before it, or the event's own word was ACK's. -/
theorem ack_in_flight_of_hostEvent {s : State} {e : HostEvent} (hreset : ¬ IsReset e)
    (hb : (hostEvent s e).busy = true) (hl : (hostEvent s e).latch = some .ack) :
    (s.busy = true ∧ s.latch = some .ack) ∨
      (s.busy = false ∧ ∃ w, e = .write (addrOf .cmd) w ∧ decode w = .ok .ack) := by
  obtain hr | ⟨w, i, hidle, rfl, hi, he⟩ | hkeeps := hostEvent_cases s e
  · exact absurd hr hreset
  · rw [he, accept_latch] at hl
    exact .inr ⟨hidle, w, rfl, Option.some.inj hl ▸ hi⟩
  · exact .inl ⟨hkeeps.busy ▸ hb, hkeeps.latch ▸ hl⟩

theorem slotStep_recordedError {s t : State} {slot : Slot} (h : s.errcode ≠ 0#8) (ht : slotStep s slot = .next t) :
    recordedError t = recordedError s ∨ ClearsError s slot := by
  obtain ⟨e, tick⟩ := slot
  by_cases hreset : IsReset e
  · exact .inr (.inl hreset)
  have hevent : recordedError (hostEvent s e) = recordedError s := (hostEvent_recordedError h e).resolve_left hreset
  cases tick with
  | false =>
    cases (slotStep_event s e).symm.trans ht
    exact .inl hevent
  | true =>
    have hcode : (hostEvent s e).errcode ≠ 0#8 := by rwa [((recordedError_eq_iff s _).mp hevent).1]
    obtain hturn | ⟨hb, hl⟩ := sequencerTurn_recordedError hcode ((slotStep_turn s e).symm.trans ht)
    · exact .inl (hturn.trans hevent)
    · exact .inr (.inr ⟨rfl, ack_in_flight_of_hostEvent hreset hb hl⟩)

theorem step_recordedError {s t : State} (h : s.errcode ≠ 0#8) (ht : step s = .next t) :
    recordedError t = recordedError s ∨ ∃ slot rest, s.inputs = slot :: rest ∧ ClearsError s slot := by
  cases hs : s.inputs with
  | nil =>
    cases (step_of_inputs_nil hs).symm.trans ht
    exact .inl rfl
  | cons slot rest =>
    have hslot : slotStep (nextSlot s rest) slot = .next t := (step_of_inputs_cons hs).symm.trans ht
    exact (slotStep_recordedError (s := nextSlot s rest) h hslot).imp_right fun hc => ⟨slot, rest, rfl, hc⟩

end Sys2Proof.Machine

open Sys2Proof.Machine in
/-- Settles O15: a later error leaves the record, and a slot clears it only by a reset or by a completing ACK. -/
theorem firstErrorIsKeptUntilAckOrReset : Obligations.FirstErrorIsKeptUntilAckOrReset := by
  refine ⟨fun _ code info h => raiseError_first h code info, fun _ code info h => raiseError_later h code info,
    fun s t h ht => ?_⟩
  obtain hkept | ⟨slot, rest, hs, hclears⟩ := step_recordedError h ht
  · exact .inl ((recordedError_eq_iff s t).mp hkept)
  · exact .inr ⟨slot, rest, hs, or_assoc.mp hclears⟩

end

section
/-! PROOFS. The writers of R247's table (70_reset_and_hazards.md R247): each command's next state is written with the
named setters, and a setter leaves every field it does not name. -/

open Sys2Proof.Machine in
/-- Settles O29: command by command, from the setters its next state is made of; EVAL from the frame of its stages and
GENMAT from the three ends of an attempt. -/
theorem onlyItsWriterChangesIt : Obligations.OnlyItsWriterChangesIt := by
  intro i s t ht
  cases i with
  | nop | gseed | gnext | rank | ack => cases ht; simp
  | genmat =>
    cases ht
    obtain ⟨-, ha⟩ | ⟨-, -, -, ha⟩ | ⟨-, -, ha⟩ := genmatAttempt_cases s <;> simp [ha]
  | mvmul => cases ht; simp [mvmulStage]
  | oct => cases ht; simp [octStage]
  | sboxgen => cases ht; simp [sboxgenStage]
  | anti => cases ht; simp [antiStage]
  | chain => cases ht; simp [chainStage]
  | sboxapp => cases ht; simp [sboxappStage]
  | fold => cases ht; simp [foldStage]
  | cmp => cases ht; simp [cmpStage]
  | eval =>
    cases ht
    obtain ⟨_, _, _, _, _, _, _, _, hframe⟩ := evalStages_frame Sys2Proof.Config.protocolK s
    simp [hframe]

end
